-- ==== Sys2Proof/Word.lean ====
section
/-! DEFINITION. The byte of the serial line and the plainest arithmetic every block uses (00_scope.md section 4.2). -/

namespace Sys2Proof

/-- One byte of the serial line (R174). -/
abbrev Byte := BitVec 8

/-- The value of a byte as a number. -/
abbrev Byte.val (b : Byte) : Nat := b.toNat

/-- A number brought into `lo..hi` (00_scope.md section 4.2; a range includes both ends). -/
def clampNat (lo hi n : Nat) : Nat := if n < lo then lo else if hi < n then hi else n

/-- A signed number brought into `lo..hi`. -/
def clampInt (lo hi n : Int) : Int := if n < lo then lo else if hi < n then hi else n

/-- A counter raised by `n` that stops rising at `top`. -/
def satAdd (top c n : Nat) : Nat := if c + n < top then c + n else top

/-- The largest value of a four-byte field. -/
def maxU32 : Nat := 4294967295

/-- The largest value of a two-byte field. -/
def maxU16 : Nat := 65535

end Sys2Proof
end

