-- ==== Sys2Proof/Syntax.lean ====
section
/-! DEFINITION. The commands of the part: one constructor for each row of spec/opcode_table.json, in the table's
order, with the operands that come from outside the part (a request's tag and body, a pin's new value, a sample).
A request's body is carried as the bytes of its frame, so that every FORM check (R177, R181) is the model's own. -/

namespace Sys2Proof

/-- The three pumps (R51). -/
inductive Pump where
  | p1 | p2 | p3
deriving DecidableEq, Repr

/-- The four frost zones (R136). -/
inductive Zone where
  | z1 | z2 | z3 | z4
deriving DecidableEq, Repr

/-- The two float switches (R12). -/
inductive FloatId where
  | low | overFloat
deriving DecidableEq, Repr

/-- A float's reading (R12). -/
inductive Wet where
  | wet | dry
deriving DecidableEq, Repr

/-- A contact's reading: the tariff line (R26), an end-stop (R74). -/
inductive Contact where
  | closed | opened
deriving DecidableEq, Repr

/-- The readings of an end-stop around one step (R76): before it, which counts at a motion's first step alone, and after
it. -/
structure EndStop where
  before : Contact
  after : Contact
deriving DecidableEq, Repr

/-- A pump's run feedback (R51). -/
inductive Presence where
  | present | absent
deriving DecidableEq, Repr

/-- The two valves (R74). -/
inductive ValveId where
  | inlet | dump
deriving DecidableEq, Repr

/-- The commands, one for each row of spec/opcode_table.json. -/
inductive Instr where
  -- restarts (R187)
  | powerOn
  | supplyDipRestart
  | resetLine
  -- requests of the station computer (R177): tag and body of the frame
  | ping (tag : Byte) (body : List Byte)
  | readStatus (tag : Byte) (body : List Byte)
  | setMode (tag : Byte) (body : List Byte)
  | restart (tag : Byte) (body : List Byte)
  | pauseNotices (tag : Byte) (body : List Byte)
  | resumeNotices (tag : Byte) (body : List Byte)
  | writeSetting (tag : Byte) (body : List Byte)
  | readSetting (tag : Byte) (body : List Byte)
  | writeGeometry (tag : Byte) (body : List Byte)
  | readGeometry (tag : Byte) (body : List Byte)
  | writeTariffWindows (tag : Byte) (body : List Byte)
  | readTariffWindows (tag : Byte) (body : List Byte)
  | commitSettings (tag : Byte) (body : List Byte)
  -- the end of a commit: whether the read-back check passed (R186)
  | commitDone (pass : Bool)
  | setClock (tag : Byte) (body : List Byte)
  | readClock (tag : Byte) (body : List Byte)
  | readLevel (tag : Byte) (body : List Byte)
  | simulateInputs (tag : Byte) (body : List Byte)
  | readPlan (tag : Byte) (body : List Byte)
  | boost (tag : Byte) (body : List Byte)
  | cancelBoost (tag : Byte) (body : List Byte)
  | readPumps (tag : Byte) (body : List Byte)
  | lockPump (tag : Byte) (body : List Byte)
  | unlockPump (tag : Byte) (body : List Byte)
  | moveValve (tag : Byte) (body : List Byte)
  | homeValve (tag : Byte) (body : List Byte)
  | stopValve (tag : Byte) (body : List Byte)
  | readValves (tag : Byte) (body : List Byte)
  | readGuard (tag : Byte) (body : List Byte)
  | clearTrip (tag : Byte) (body : List Byte)
  | readZones (tag : Byte) (body : List Byte)
  | readLoads (tag : Byte) (body : List Byte)
  | queryAlarm (tag : Byte) (body : List Byte)
  | ackAlarm (tag : Byte) (body : List Byte)
  | readAlarms (tag : Byte) (body : List Byte)
  | readTrend (tag : Byte) (body : List Byte)
  | clearTrend (tag : Byte) (body : List Byte)
  -- the end of the 2 s of a CLEAR TREND (R163)
  | clearTrendDone
  | readCounters (tag : Byte) (body : List Byte)
  | setCounter (tag : Byte) (body : List Byte)
  | resetCounter (tag : Byte) (body : List Byte)
  -- a request whose kind byte is not in the kind table (R177 a)
  | unknownKind (kind tag : Byte) (body : List Byte)
  -- link events (R176 to R179)
  | receiveFrame (bytes : List Byte)
  | receiveGapTimeout
  | silenceStart
  | transmitNextFrame
  | frameSent
  -- level unit (R1, R10, R12): the transducer's raw code, a float contact's new reading
  | transducerSample (raw : BitVec 12)
  | levelMinuteTimer
  | floatContactChange (f : FloatId) (w : Wet)
  | floatDebounceExpiry (f : FloatId)
  -- clock and tariff unit (R21, R26)
  | clockMinute
  | tariffContactChange (c : Contact)
  | tariffDebounceExpiry
  | lineMinuteTick
  -- pump unit (R53, R61, R64, R66, R68, R72)
  | spacingTimerElapsed
  | feedbackTimeExpiry (p : Pump)
  | runFeedbackChange (p : Pump) (f : Presence)
  | feedbackWithoutCommand (p : Pump)
  | simulatedFeedbackChange (p : Pump)
  | restEnd (p : Pump)
  | stagnationMinute
  -- valve unit (R76): the end-stop's readings around the step
  | valveStep (v : ValveId) (endStop : EndStop)
  -- fill unit and inflow (R94, R107, R168, R184)
  | fillMinuteTimer
  | inflowPulse
  | simulatedInflowPulse
  | lowWetTimerExpiry
  -- overflow guard (R120, R126, R129)
  | releaseTimerExpiry
  | runOnTimerExpiry
  | autoClearTimerExpiry
  -- frost unit (R133, R137, R140, R142, R145, R146): what each sensor answers, none for no answer or a failed check
  | sensorRead (z1 z2 z3 z4 air : Option Int)
  | heaterTimerExpiry (z : Zone)
  | fallbackPhaseChange (z : Zone)
  | freezeTimerMinute (z : Zone)
  | circRetryTimerExpiry
  | circRunCompletion
  | circWaitTimerExpiry
  -- telemetry unit (R160, R164)
  | trendIntervalTimer
  | reportTimerExpiry
deriving DecidableEq, Repr

end Sys2Proof
end

