-- ==== Sys2Proof/Config.lean ====
section
/-! DEFINITION. What the part fixes once and for all: the limits, periods and fixed numbers of the rules, each with
the rule that states it, and the one bound that is the model's own (`cascadeBound`). The spec leaves the part no
value undefined, so no opaque constant stands here; the choices the model makes are named in notes/assumptions. -/

namespace Sys2Proof.Config

/-- R1: raw codes below this are faulted samples. -/
def rawGoodMin : Nat := 655
/-- R1: raw codes above this are faulted samples. -/
def rawGoodMax : Nat := 4055
/-- R1, R2: the code of a 4 mA loop. -/
def rawZero : Int := 819
/-- R1, R2: the working span of the loop in codes. -/
def rawSpan : Int := 3276
/-- R4: the places of the median window. -/
def windowSize : Nat := 5
/-- R6: the faulted samples in a row that bring INVALID. -/
def faultLimit : Nat := 240
/-- R7: the good samples in a row that end a recovery. -/
def goodLimit : Nat := 10
/-- R10: the rate of rise is clamped to plus or minus this. -/
def rateLimit : Int := 2000
/-- R11: the cap of the time to overflow. -/
def tOvfTop : Nat := 999
/-- R12: the debounce of a float, in seconds. -/
def floatDebounce : Nat := 2
/-- R15: the fewest breakpoints of a geometry table. -/
def geometryMin : Nat := 2
/-- R15: the most breakpoints of a geometry table. -/
def geometryMax : Nat := 16
/-- R15: the highest level of a breakpoint. -/
def geometryLevelTop : Nat := 20000
/-- R15: the largest volume of a breakpoint. -/
def geometryVolumeTop : Nat := 4000000
/-- Section 4.1: the minutes of a week. -/
def weekMinutes : Nat := 10080
/-- R23: the most windows of a calendar. -/
def windowsMax : Nat := 8
/-- R26: the stale count at which the tariff line is STALE. -/
def staleLimit : Nat := 1800
/-- R26: the debounce of the tariff line, in seconds. -/
def tariffDebounce : Nat := 5
/-- R53: the spacing timer stops here. -/
def spacingTop : Nat := 65535
/-- R77: a seat reached at or below this position is no slip. -/
def seatPosition : Nat := 20
/-- R77 c: the steps of a seat search. -/
def seatSearchSteps : Nat := 50
/-- R78: the step at which a stuck switch is found. -/
def stuckSteps : Nat := 30
/-- R79 a: the steps of a back-off. -/
def backOffSteps : Nat := 50
/-- R79 b: the steps of a seek. -/
def seekSteps : Nat := 1100
/-- R74: full travel of a valve. -/
def fullTravel : Nat := 1000
/-- R90: the simulated stem of a valve whose position is unknown at entry into COMMISSION. -/
def unknownStem : Int := 1000
/-- R97: the cap of the available minutes. -/
def availableTop : Nat := 1440
/-- R107: the minutes the LOW float must stand WET when the level is not usable. -/
def lowWetMinutes : Nat := 10
/-- R120: the release timer's end, in seconds. -/
def releaseSeconds : Nat := 60
/-- R126: the run-on timer's end, in seconds. -/
def runOnSeconds : Nat := 120
/-- R129: the auto-clear timer's end, in minutes. -/
def autoClearMinutes : Nat := 30
/-- R133: the lowest temperature of a good read, in tenths of a degree. -/
def tempMin : Int := -550
/-- R133: the highest temperature of a good read, in tenths of a degree. -/
def tempMax : Int := 1250
/-- R134: the reads in a row that change a sensor's status. -/
def sensorRun : Nat := 3
/-- R136: the minimum on time of a heater, in seconds. -/
def minimumOn : Nat := 120
/-- R136: the minimum off time of a heater, in seconds. -/
def minimumOff : Nat := 60
/-- R140: an air reading below this keeps the fallback duty. -/
def fallbackAir : Int := 30
/-- R140: the minutes of a fallback phase. -/
def fallbackMinutes : Nat := 10
/-- R142: the freeze timer's top, in minutes. -/
def freezeMinutes : Nat := 10
/-- R145, R146: the retry and wait times of circulation, in seconds. -/
def circWaitSeconds : Nat := 600
/-- R161: the places of the trend log. -/
def logPlaces : Nat := 512
/-- R164: the places of the open batch. -/
def batchPlaces : Nat := 12
/-- R165: the places of the general notices. -/
def generalPlaces : Nat := 19
/-- R167: the limit of the DONE load. -/
def doneLimit : Nat := 4
/-- R176, R177: the places of the request queue. -/
def requestPlaces : Nat := 4
/-- R175: the lead byte of a frame. -/
def leadByte : Byte := 0xA5
/-- R175: the largest length byte of a frame. -/
def lengthTop : Nat := 248
/-- R72: the seconds after which the simulated feedback follows the contactor command. -/
def simFeedbackSeconds : Nat := 2
/-- R163: the seconds of a CLEAR TREND. -/
def clearSeconds : Nat := 2

/-- The most hand-overs between blocks that one event may carry out. DESIGN CHOICE (log 4): the part's blocks act on
one another until nothing is left to hand over; the model bounds that chain so that every command is a total function,
far above the longest chain found, and marks a state in which the bound was met (`Plant.cut`). -/
def cascadeBound : Nat := 2048

end Sys2Proof.Config
end

