-- ==== Sys2Proof/Machine/State.lean ====
section
/-! DEFINITION. The state of the WT-61, block by block (00_scope.md section 2.1), as plain data.

`Env` gathers what the cascade of hand-overs inside one event only reads (settings, level unit, clock and tariff
unit, mode and store unit, input pins); `Plant` gathers what it changes (load table, pumps, valves, guard, fill,
frost, alarms, telemetry); `Link` is the message link. Fields that are the model's own are said to be so. -/

namespace Sys2Proof.Machine

/-! ### Small shared types -/

/-- A value for each pump, P1 first. -/
structure PerPump (α : Type) where
  p1 : α
  p2 : α
  p3 : α
deriving DecidableEq, Repr

/-- A value for each frost zone, Z1 first. -/
structure PerZone (α : Type) where
  z1 : α
  z2 : α
  z3 : α
  z4 : α
deriving DecidableEq, Repr

/-- A value for each event counter, counter 1 first (R169). -/
structure PerCounter (α : Type) where
  c1 : α
  c2 : α
  c3 : α
  c4 : α
deriving DecidableEq, Repr

/-- A reading of the day clock: minute-of-week and second (section 2.1 of Part 2). -/
structure Stamp where
  minute : Nat
  second : Nat
deriving DecidableEq, Repr

/-- A timer that runs or is stopped, with its value (R117). -/
structure Timer where
  running : Bool
  value : Nat
deriving DecidableEq, Repr

/-! ### Settings (section 12.7) and what is stored with them (R186) -/

/-- The tariff source (R27), codes 0 to 2. -/
inductive Source where
  | calendar | line | lineElseCalendar
deriving DecidableEq, Repr

/-- The four settings of a zone (R135). -/
structure ZoneSettings where
  enabled : Bool
  onBelow : Int
  offAbove : Int
  critical : Int
deriving DecidableEq, Repr

/-- The settings of the table of section 12.7, in id order. -/
structure Settings where
  offsetTrim : Int
  span : Int
  gainTrim : Int
  datum : Int
  lTop : Nat
  hLow : Nat
  hOver : Nat
  floatTol : Nat
  source : Source
  nominal : Nat
  capCheap : Nat
  capDear : Nat
  pumpRating : PerPump Nat
  zoneRating : PerZone Nat
  pumpsFitted : Nat
  delivery : PerPump Nat
  feedbackTime : Nat
  startSpacing : Nat
  restTime : Nat
  stepRate : Nat
  pOpen : Nat
  pFill : Nat
  pDump : Nat
  fillTarget : Nat
  margin : Nat
  initialDraw : Nat
  refillBand : Nat
  reserveLevel : Nat
  reserveBand : Nat
  blindLimit : Nat
  litresPerPulse : Nat
  lHigh : Nat
  lHh : Nat
  lOver : Nat
  hysteresis : Nat
  tWarn : Nat
  zone : PerZone ZoneSettings
  circBelow : Int
  stagnationLimit : Nat
  circHeadroom : Nat
  circRunTime : Nat
  relayThreshold : Nat
  trendInterval : Nat
  deadband : Nat
  reportPeriod : Nat
  lineRate : Nat
  supervision : Nat
deriving DecidableEq, Repr

/-- A breakpoint of the geometry table (R15). -/
structure Breakpoint where
  level : Nat
  volume : Nat
deriving DecidableEq, Repr

/-- A cheap window of the tariff calendar (R23). -/
structure Window where
  start : Nat
  stop : Nat
deriving DecidableEq, Repr

/-- The counter events (R169), codes 0 to 8. -/
inductive CounterEvent where
  | pumpStarts | pumpRunSeconds | inflowLitres | heatEnergy | guardShuts | dumpOpens | linkFaults | circRuns | alarmRaises
deriving DecidableEq, Repr

/-- The tariff qualifier of a counter (R169), codes 0 to 2. -/
inductive Qualifier where
  | any | cheap | dear
deriving DecidableEq, Repr

/-- The number of an event counter (R169). -/
inductive CounterId where
  | c1 | c2 | c3 | c4
deriving DecidableEq, Repr

/-- A counter's program (R169). -/
structure Program where
  event : CounterEvent
  qualifier : Qualifier
  threshold : Nat
  freeze : Bool
  startAfter : Option CounterId
deriving DecidableEq, Repr

/-- Everything the settings store holds (R186): the settings, the geometry table (`none` when absent), the tariff
windows and the counter programs. The working copy has the same shape (R185). -/
structure Working where
  set : Settings
  geometry : Option (List Breakpoint)
  windows : List Window
  programs : PerCounter Program
deriving DecidableEq, Repr

/-! ### Level unit (Part 1) -/

/-- The quality of the level estimate (section 1.4), coded as in the trend point. -/
inductive Quality where
  | good | held | invalid
deriving DecidableEq, Repr

/-- A float switch: its reported state, and the seconds a changed contact has stood (R12), `none` while the contact
agrees with the reported state. -/
structure FloatRec where
  reported : Wet
  debounce : Option Nat
deriving DecidableEq, Repr

/-- A minute snapshot (R10): L_f and whether the quality was GOOD. -/
structure Snapshot where
  level : Nat
  good : Bool
deriving DecidableEq, Repr

/-- The level unit's state (Part 1). -/
structure Level where
  /-- last raw code (R1) -/
  lastRaw : Nat
  /-- last raw code read from the transducer itself, which COMMISSION leaves (R19) -/
  transducer : Nat
  /-- median window, oldest first (R4) -/
  window : List Nat
  /-- filtered level L_f (R5) -/
  filtered : Nat
  quality : Quality
  faultRun : Nat
  goodRun : Nat
  /-- published flag (section 1.4) -/
  published : Bool
  /-- held level (section 1.4) -/
  held : Nat
  /-- rate of rise, `none` when unknown (R10) -/
  rate : Option Int
  snapshot : Option Snapshot
  /-- whether the quality has been GOOD at every sample since the snapshot (R10 a) -/
  goodSince : Bool
  /-- time to overflow T_ovf (R11) -/
  tOvf : Nat
  /-- seconds of the minute timer (R10) -/
  minuteSecs : Nat
  low : FloatRec
  overFloat : FloatRec
deriving DecidableEq, Repr

/-! ### Clock and tariff unit (Part 2) -/

/-- The tariff state (R27), coded as in the trend point. -/
inductive Tariff where
  | cheap | dear | unknown
deriving DecidableEq, Repr

/-- The cheap period on the tariff line (R26, R30): whole minutes since the line cheap start, and whether its start
was a reported change since the last restart. -/
structure LineCheap where
  minutes : Nat
  complete : Bool
deriving DecidableEq, Repr

/-- The clock and tariff unit's state (Part 2). -/
structure Clock where
  isSet : Bool
  minute : Nat
  second : Nat
  /-- reported line state (R26) -/
  line : Contact
  /-- seconds a changed contact has stood (R26) -/
  lineDebounce : Option Nat
  /-- stale count (R26) -/
  stale : Nat
  /-- seconds of the unit's own minute counter (R26) -/
  lineSecs : Nat
  /-- present while the reported state is CLOSED -/
  lineCheap : Option LineCheap
  /-- learned length (R30) -/
  learned : Nat
  /-- tariff state in force (R27) -/
  tariff : Tariff
deriving DecidableEq, Repr

/-! ### Mode and store unit (Part 12) -/

/-- The operating mode (R182), codes 0 to 2. -/
inductive Mode where
  | setup | run | commission
deriving DecidableEq, Repr

/-- The restart cause (R187), codes 0 to 3. -/
inductive Cause where
  | cold | dip | pin | request
deriving DecidableEq, Repr

/-- The store state (R186), codes 0 to 2. -/
inductive StoreState where
  | loaded | defaults | commitFailed
deriving DecidableEq, Repr

/-- A commit in flight (R186): its tag and the working settings as they stood at acceptance. -/
structure Commit where
  tag : Byte
  snapshot : Working
deriving DecidableEq, Repr

/-- What each of the five sensors answers (R133): `none` for no answer or an answer that fails its check. -/
structure Bus where
  z1 : Option Int
  z2 : Option Int
  z3 : Option Int
  z4 : Option Int
  air : Option Int
deriving DecidableEq, Repr

/-- The simulated inputs (R184). `total60` is the running total of simulated litres in sixtieths of a litre, the
model's unit for a rate per minute counted by the second (log 16). -/
structure Simulated where
  raw : Nat
  low : Wet
  overFloat : Wet
  temps : Bus
  tariff : Contact
  inflowRate : Nat
  total60 : Nat
deriving DecidableEq, Repr

/-- The non-volatile settings store (R186): its content and the 16-bit store check that seals it. -/
structure Store where
  content : Working
  check : BitVec 16
deriving DecidableEq, Repr

/-- The mode and store unit's state (Part 12). -/
structure Sys where
  mode : Mode
  cause : Cause
  storeState : StoreState
  store : Store
  commit : Option Commit
  sim : Simulated
deriving DecidableEq, Repr

/-- The input pins as they now stand (section 6 of 00_scope.md): the model's own record of what the plant last showed
at each pin, so that a restart or a change of mode can read it. -/
structure Pins where
  low : Wet
  overFloat : Wet
  tariff : Contact
  feedback : PerPump Presence
  /-- what the sensor bus last answered -/
  bus : Bus
deriving DecidableEq, Repr

/-- What the cascade of hand-overs inside one event only reads. -/
structure Env where
  cfg : Working
  level : Level
  clock : Clock
  sys : Sys
  pins : Pins
deriving DecidableEq, Repr

/-! ### Load-share unit (Part 3) -/

/-- The seven loads of the load table (R34). -/
inductive Load where
  | pump (p : Pump)
  | zone (z : Zone)
deriving DecidableEq, Repr

/-- The class of a claim (R34), 1 to 4 in order of urgency. -/
inductive LoadClass where
  | freeze | secure | fill | warm
deriving DecidableEq, Repr

/-- A load-table record's claim (R34): its state with the class, claim sequence and grant sequence it then holds. -/
inductive Claim where
  | idle
  | waiting (cls : LoadClass) (seq : Nat)
  | granted (cls : LoadClass) (seq : Nat) (grant : Nat)
deriving DecidableEq, Repr

/-- The load-share unit's state (Part 3). The waiting list, the granted sum and the freeze sum are computed from the
records (`waitingList`, `grantedSum`, `freezeSum`). -/
structure LoadTable where
  pumps : PerPump Claim
  zones : PerZone Claim
  claimCounter : Nat
  grantCounter : Nat
  /-- cap in force (R33) -/
  cap : Nat
  /-- whether the cap in force is cap_cheap -/
  capCheap : Bool
deriving DecidableEq, Repr

/-! ### Pump unit (Part 4) -/

/-- The states of a pump (R52), codes 0 to 6. -/
inductive PumpState where
  | off | called | starting | running | resting | lockout | out
deriving DecidableEq, Repr

/-- The set of demands a pump serves (R51). -/
structure Served where
  fill : Bool
  boost : Bool
  reserve : Bool
  circ : Bool
deriving DecidableEq, Repr

/-- A run of a contactor that is closed (R51): the run start (`none` for the mark that the clock was UNSET) and the run
seconds. -/
structure Run where
  start : Option Stamp
  secs : Nat
deriving DecidableEq, Repr

/-- A pump's record (R51). The contactor command, its output and the call class are computed (`PumpRec.closed`,
`contactorOutput`, `PumpRec.callClass`). -/
structure PumpRec where
  state : PumpState
  served : Served
  /-- state timer in seconds -/
  timer : Nat
  /-- present while the contactor is closed -/
  run : Option Run
  windowMark : Bool
  /-- the simulated run feedback of COMMISSION (R72 c) -/
  simFeedback : Presence
  /-- seconds since the contactor command last changed, for the simulated feedback (R72 c) -/
  simSecs : Nat
  /-- seconds the feedback has stood PRESENT with the contactor open (R66 c) -/
  feedbackSecs : Nat
deriving DecidableEq, Repr

/-- The guard limit (R56), codes 0 to 2. -/
inductive Limit where
  | none | one | zero
deriving DecidableEq, Repr

/-- The pump unit's state (Part 4). -/
structure Pumps where
  recs : PerPump PumpRec
  /-- duty list, head first (R54) -/
  duty : List Pump
  /-- the four demands as last handed (R56) -/
  fillK : Nat
  boostK : Nat
  reserve : Bool
  circ : Bool
  /-- the guard limit as last handed (R56, R117) -/
  limit : Limit
  /-- spacing timer in seconds (R53) -/
  spacing : Nat
  /-- stagnation timer in minutes (R68) and the seconds of its present minute -/
  stagnation : Nat
  stagnationSecs : Nat
  windowOpen : Bool
  rotationPending : Bool
  inletRequest : Bool
deriving DecidableEq, Repr

/-! ### Valve unit (Part 5) -/

/-- The states of a valve (R74), coded as in the DONE notice. -/
inductive ValveState where
  | unhomed | idle | moving | homing | fault
deriving DecidableEq, Repr

/-- The owner of a valve (R74), codes 0 to 3. -/
inductive Owner where
  | none | host | pumps | guard
deriving DecidableEq, Repr

/-- A request of rank PUMPS (R82). -/
inductive PumpsRequest where
  | homing | pFill
deriving DecidableEq, Repr

/-- The station computer's operation in flight on a valve (R84): its tag and the kind of the request that began it. -/
structure Operation where
  tag : Byte
  kind : Byte
deriving DecidableEq, Repr

/-- The phase of a homing (R79) with the steps taken in it. -/
inductive Phase where
  | backOff (steps : Nat)
  | seek (steps : Nat)
deriving DecidableEq, Repr

/-- A valve's record (R74), with the progress of its motion and what COMMISSION saves (R90). The step and direction outputs are
computed (`Valve.stepOutput`, `Valve.directionOutput`). -/
structure Valve where
  state : ValveState
  position : Option Nat
  target : Option Nat
  owner : Owner
  waiting : Option PumpsRequest
  op : Option Operation
  /-- the real end-stop as last read -/
  endStop : Contact
  fromFault : Bool
  /-- the motion's first step is still to be given, before which the end-stop is read (R76, log 10) -/
  unread : Bool
  /-- the phase while HOMING -/
  phase : Option Phase
  /-- steps of a seat search under way (R77 c) -/
  seat : Option Nat
  /-- steps of a stuck-switch test under way (R78) -/
  stuck : Option Nat
  /-- simulated stem (R90) -/
  stem : Int
  /-- state and position saved on entry into COMMISSION (R90 a) -/
  saved : Option (ValveState × Option Nat)
deriving DecidableEq, Repr

/-- The two valve records (R74). -/
structure Valves where
  inlet : Valve
  dump : Valve
deriving DecidableEq, Repr

/-! ### Overflow guard (Part 7) -/

/-- The guard's states (R117), coded as in the trend point. -/
inductive GuardState where
  | normal | watch | shut | trip | blind
deriving DecidableEq, Repr

/-- The guard's reason (R117), coded as in the STATUS notice. -/
inductive GuardReason where
  | none | restart | highHigh | overFloat | invalid | high | fast
deriving DecidableEq, Repr

/-- The part of the guard record that COMMISSION saves and restores (R131). The guard limit is handed to the pump
unit and stands there (`Pumps.limit`); it follows from the state and reason (`guardLimit`). -/
structure GuardCore where
  state : GuardState
  reason : GuardReason
  high : Bool
  highHigh : Bool
  fast : Bool
  latch : Bool
  /-- release timer in seconds (R120) -/
  release : Timer
  /-- run-on timer in seconds (R126) -/
  runOn : Timer
  /-- auto-clear timer in minutes (R129) and the seconds of its present minute -/
  autoClear : Timer
  autoClearSecs : Nat
  /-- the guard's target of each valve it holds (R117) -/
  inletHold : Option Nat
  dumpHold : Option Nat
deriving DecidableEq, Repr

/-- The guard record (R117). -/
structure Guard where
  core : GuardCore
  silence : Bool
  /-- state age in minutes and the seconds of its present minute -/
  age : Nat
  ageSecs : Nat
  /-- the record saved on entry into COMMISSION (R131 a) -/
  saved : Option GuardCore
deriving DecidableEq, Repr

/-! ### Fill unit (Part 6) -/

/-- The states of the fill plan (R93), codes 0 to 4. -/
inductive PlanState where
  | idle | filling | topped | suspended | blindFill
deriving DecidableEq, Repr

/-- The suspension reasons (R93), codes 0 to 4. -/
inductive SuspendReason where
  | mode | guard | tariff | noPump | valve
deriving DecidableEq, Repr

/-- The ends of a boost (R110), codes 0 to 5. -/
inductive BoostEnd where
  | reached | invalid | guard | mode | silent | cancelled
deriving DecidableEq, Repr

/-- The expected finish (R100): minutes from the evaluation, and the minute-of-week (`none` while the clock is UNSET). -/
structure Finish where
  minutes : Nat
  minuteOfWeek : Option Nat
deriving DecidableEq, Repr

/-- The fill plan record (R93). Its fill k is the value last handed, which stands in the pump unit (`Pumps.fillK`). -/
structure Plan where
  state : PlanState
  reason : Option SuspendReason
  levelUsed : Nat
  need : Nat
  available : Nat
  kNeed : Nat
  kMax : Nat
  shortfall : Bool
  finish : Option Finish
  topped : Bool
deriving DecidableEq, Repr

/-- A boost in force (R109). -/
structure Boost where
  level : Nat
  k : Nat
deriving DecidableEq, Repr

/-- The window record (R105). -/
structure WindowRecord where
  startVolume : Option Nat
  inflow : Nat
  minutes : Nat
  usable : Bool
deriving DecidableEq, Repr

/-- The fill unit's state (Part 6). The reserve is the demand it handed (`Pumps.reserve`). -/
structure Fill where
  plan : Plan
  /-- learned draw D (R106) -/
  draw : Nat
  windowOpen : Bool
  /-- seconds of the minute timer (R94 b) -/
  minuteSecs : Nat
  window : WindowRecord
  /-- blind minutes (R102) -/
  blind : Nat
  boost : Option Boost
  /-- the boost end of the last boost to end since the last restart (R112) -/
  boostEnd : Option BoostEnd
  /-- LOW wet timer in minutes (R107) and the seconds of its present minute -/
  lowWet : Nat
  lowWetSecs : Nat
deriving DecidableEq, Repr

/-! ### Frost unit (Part 8) -/

/-- A sensor record (R133); `faulted` is its status. -/
structure Sensor where
  reading : Option Int
  faulted : Bool
  badRun : Nat
  goodRun : Nat
deriving DecidableEq, Repr

/-- The states of a zone (R136), codes 0 to 4. -/
inductive ZoneState where
  | off | want | heat | fallback | disabled
deriving DecidableEq, Repr

/-- The fallback phase (R136): ON or OFF, its minutes and the seconds of the present minute. -/
structure FallbackPhase where
  on : Bool
  minutes : Nat
  secs : Nat
deriving DecidableEq, Repr

/-- A zone record (R136). The claim is the load table's; the heater command and its output follow it (`heaterOn`,
`heaterOutput`). -/
structure ZoneRec where
  state : ZoneState
  /-- heater timer in seconds -/
  timer : Nat
  /-- on seconds -/
  onSecs : Nat
  boost : Bool
  /-- freeze timer in minutes (R142) and the seconds of its present minute -/
  freeze : Nat
  freezeSecs : Nat
  fallback : Option FallbackPhase
deriving DecidableEq, Repr

/-- The circulation record's states (R143), codes 0 to 3. -/
inductive CircState where
  | quiet | demanded | run | refused
deriving DecidableEq, Repr

/-- The reasons of a refusal of circulation (R143), codes 0 to 6. -/
inductive Refused where
  | level | headroom | guard | noPump | mode | wait | guardEnd
deriving DecidableEq, Repr

/-- The circulation record (R143). Its demand stands in the pump unit (`Pumps.circ`). -/
structure Circ where
  state : CircState
  wait : Nat
  run : Nat
  retry : Nat
  refusal : Option Refused
deriving DecidableEq, Repr

/-- The frost unit's state (Part 8). -/
structure Frost where
  zones : PerZone ZoneRec
  sensors : PerZone Sensor
  air : Sensor
  circ : Circ
  /-- the last good real read of each sensor taken in COMMISSION (R148) -/
  realGood : Bus
deriving DecidableEq, Repr

/-! ### Alarm unit (Part 9) -/

/-- The 24 alarm kinds in id order (R150). -/
inductive AlarmKind where
  | overflowTrip | highHigh | levelSensor | levelDisagree | lowReserve | freeze
  | pump1Fault | pump2Fault | pump3Fault | inletValveFault | dumpValveFault | hostSilent
  | zone1Sensor | zone2Sensor | zone3Sensor | zone4Sensor | fillShortfall | tariffUnknown
  | store | valveSlip | airSensor | meter | supplyDip | high
deriving DecidableEq, Repr

/-- The states of an alarm record (R150), codes 0 to 3. -/
inductive AlarmState where
  | quiet | active | acked | latched
deriving DecidableEq, Repr

/-- An alarm record (R150). Its condition is PRESENT in ACTIVE and ACKED and ABSENT otherwise (`alarmPresent`). The
stamp's inner `none` is the mark that the day clock was UNSET. -/
structure AlarmRec where
  state : AlarmState
  raiseSeq : Option Nat
  stamp : Option (Option Stamp)
  raises : Nat
deriving DecidableEq, Repr

/-- The alarm unit's state (Part 9): the table in id order, the raise counter, the alarm change count. The relay
follows the table and the threshold (`relayOn`). -/
structure Alarms where
  table : List AlarmRec
  raiseCounter : Nat
  changes : Nat
deriving DecidableEq, Repr

/-! ### Telemetry unit (Part 10) -/

/-- A trend point (R159). -/
structure TrendPoint where
  seq : Nat
  stamp : Option Stamp
  level : Nat
  quality : Quality
  guardState : GuardState
  tariff : Tariff
  running : Nat
  heating : Nat
  inflow : Nat
deriving DecidableEq, Repr

/-- The kinds of notice (section 11.5); a COUNTER notice is one of four (R165). -/
inductive NoticeKind where
  | status | alarm | plan | level | counter (c : CounterId) | done
deriving DecidableEq, Repr

/-- A notice waiting in the queue (R165): its kind, the tag it carries and its body as bytes. -/
structure Notice where
  kind : NoticeKind
  tag : Byte
  body : List Byte
deriving DecidableEq, Repr

/-- An event counter's count and marks (R169). -/
structure Counter where
  count : Nat
  crossed : Bool
  started : Bool
  frozen : Bool
deriving DecidableEq, Repr

/-- The telemetry unit's state (Part 10). -/
structure Telem where
  /-- trend log, oldest first (R161) -/
  log : List TrendPoint
  /-- point counter: the next sequence (R159) -/
  pointCounter : Nat
  /-- litres since the previous point (R159) -/
  inflow : Nat
  /-- interval timer in seconds (R160) -/
  interval : Nat
  /-- open batch, oldest first (R164) -/
  batch : List TrendPoint
  /-- report timer in seconds (R164) -/
  report : Nat
  /-- reference level of the deadband (R160) -/
  reference : Option Nat
  /-- notice queue, head first (R165) -/
  queue : List Notice
  /-- gap mark (R166) -/
  gap : Bool
  counters : PerCounter Counter
  /-- the tag of a CLEAR TREND in flight (R163) and its seconds -/
  clear : Option Byte
  clearSecs : Nat
deriving DecidableEq, Repr

/-- What the cascade of hand-overs inside one event changes. `cut` is the model's own mark (log 4). -/
structure Plant where
  load : LoadTable
  pumps : Pumps
  valves : Valves
  guard : Guard
  fill : Fill
  frost : Frost
  alarms : Alarms
  telem : Telem
  cut : Bool
deriving DecidableEq, Repr

/-! ### Link unit (Part 11) -/

/-- A request waiting in the request queue (R177). -/
structure Request where
  kind : Byte
  tag : Byte
  body : List Byte
deriving DecidableEq, Repr

/-- What follows the last byte of a frame: nothing, the restart of R189, or the new line rate of R174, with its code. -/
inductive After where
  | nothing | restart
  | lineRate (rate : Nat)
deriving DecidableEq, Repr

/-- A reply in the reply slot (R177, R178). -/
structure Reply where
  kind : Byte
  tag : Byte
  body : List Byte
  after : After
deriving DecidableEq, Repr

/-- A frame on the line (R178): its bytes and what follows its last byte. -/
structure Sending where
  bytes : List Byte
  after : After
deriving DecidableEq, Repr

/-- The link flags (R177). -/
structure LinkFlags where
  gap : Bool
  check : Bool
  overrun : Bool
  silent : Bool
deriving DecidableEq, Repr

/-- The link unit's state (Part 11). -/
structure Link where
  /-- receiver: `none` in HUNTING, the bytes taken since the lead byte IN_FRAME (R176) -/
  rx : Option (List Byte)
  queue : List Request
  slot : Option Reply
  sending : Option Sending
  flags : LinkFlags
  paused : Bool
  silence : Bool
  /-- supervision timer in seconds (R179) -/
  supervision : Nat
  /-- line rate in force, codes 0 to 3 (R174) -/
  rate : Nat
deriving DecidableEq, Repr

/-! ### The machine -/

/-- The state of the part, with the queue of commands waiting, first in first out. -/
structure State where
  pending : List Instr
  env : Env
  plant : Plant
  link : Link
deriving DecidableEq, Repr

/-- No event stops the part: the spec gives every row of its table an effect or says that nothing changes, so no
fault can be raised and the type has no constructor. -/
inductive Fault where
deriving DecidableEq, Repr

/-- The reasons a step can be refused. -/
inductive Refusal where
  /-- A command that has no meaning yet, raised by `exec` alone; safe, since a refused step proves nothing. Every
  command of the table has its meaning, so no arm raises it. -/
  | notModelled (mnemonic : String)
deriving DecidableEq, Repr

/-! ### The state after reset

The part right after its first power-on (log 7): a COLD restart that found a settings store whose check fails, so every setting stands
at its factory default, the mode is SETUP and STORE stands ACTIVE. `Tests/Slice0.lean` shows that POWER_ON leaves
exactly this state when the input pins stand as here. -/

/-- The factory defaults of the settings (section 12.7). -/
def Settings.factory : Settings where
  offsetTrim := 0
  span := 16000
  gainTrim := 0
  datum := 0
  lTop := 15000
  hLow := 1500
  hOver := 14700
  floatTol := 300
  source := .lineElseCalendar
  nominal := 420
  capCheap := 1000
  capDear := 400
  pumpRating := ⟨370, 370, 370⟩
  zoneRating := ⟨50, 50, 50, 50⟩
  pumpsFitted := 3
  delivery := ⟨1000, 1000, 1000⟩
  feedbackTime := 5
  startSpacing := 30
  restTime := 180
  stepRate := 20
  pOpen := 900
  pFill := 1000
  pDump := 1000
  fillTarget := 13200
  margin := 30
  initialDraw := 150
  refillBand := 300
  reserveLevel := 6000
  reserveBand := 500
  blindLimit := 60
  litresPerPulse := 10
  lHigh := 13800
  lHh := 14200
  lOver := 14600
  hysteresis := 200
  tWarn := 20
  zone := ⟨⟨true, 20, 40, 0⟩, ⟨true, 20, 40, 0⟩, ⟨true, 20, 40, 0⟩, ⟨true, 20, 40, 0⟩⟩
  circBelow := 10
  stagnationLimit := 60
  circHeadroom := 500
  circRunTime := 3
  relayThreshold := 3
  trendInterval := 60
  deadband := 100
  reportPeriod := 900
  lineRate := 0
  supervision := 300

/-- The default program of a counter (R169). -/
def Program.factory (ev : CounterEvent) : Program := ⟨ev, .any, 0, false, none⟩

/-- The factory defaults of everything the store holds (R187 a). -/
def Working.factory : Working where
  set := .factory
  geometry := none
  windows := []
  programs := ⟨.factory .pumpStarts, .factory .pumpRunSeconds, .factory .inflowLitres, .factory .heatEnergy⟩

/-- A sensor bus that has answered nothing. -/
def Bus.silent : Bus := ⟨none, none, none, none, none⟩

/-- The input pins the model takes at reset (log 8). -/
def Pins.reset : Pins where
  low := .wet
  overFloat := .dry
  tariff := .opened
  feedback := ⟨.absent, .absent, .absent⟩
  bus := .silent

/-- The level unit after a full restart (R20), its floats read from the pins. -/
def Level.reset : Level where
  lastRaw := 0
  transducer := 0
  window := []
  filtered := 0
  quality := .held
  faultRun := 0
  goodRun := 0
  published := false
  held := 0
  rate := none
  snapshot := none
  goodSince := false
  tOvf := 999
  minuteSecs := 0
  low := ⟨.wet, none⟩
  overFloat := ⟨.dry, none⟩

/-- The clock and tariff unit after a full restart (R32) with the line OPEN. -/
def Clock.reset : Clock where
  isSet := false
  minute := 0
  second := 0
  line := .opened
  lineDebounce := none
  stale := 0
  lineSecs := 0
  lineCheap := none
  learned := 420
  tariff := .dear

/-- The simulated inputs outside COMMISSION, where no rule reads them (log 9). -/
def Simulated.reset : Simulated where
  raw := 0
  low := .wet
  overFloat := .dry
  temps := .silent
  tariff := .opened
  inflowRate := 0
  total60 := 0

/-- The store that the first power-on finds: one whose check fails (R187 a, logs 7, 53). -/
def Store.reset : Store := ⟨.factory, 0⟩

/-- The mode and store unit after a first power-on (R187). -/
def Sys.reset : Sys where
  mode := .setup
  cause := .cold
  storeState := .defaults
  store := .reset
  commit := none
  sim := .reset

/-- The settings, level, clock and mode after reset. -/
def Env.reset : Env where
  cfg := .factory
  level := .reset
  clock := .reset
  sys := .reset
  pins := .reset

/-- The load table after a restart (R49), under cap_dear. -/
def LoadTable.reset : LoadTable where
  pumps := ⟨.idle, .idle, .idle⟩
  zones := ⟨.idle, .idle, .idle, .idle⟩
  claimCounter := 1
  grantCounter := 1
  cap := 400
  capCheap := false

/-- No demand served. -/
def Served.empty : Served := ⟨false, false, false, false⟩

/-- A fitted pump in its start hold (R73 a). -/
def PumpRec.resting : PumpRec where
  state := .resting
  served := .empty
  timer := 0
  run := none
  windowMark := false
  simFeedback := .absent
  simSecs := 0
  feedbackSecs := 0

/-- The pump unit after a full restart (R73). -/
def Pumps.reset : Pumps where
  recs := ⟨.resting, .resting, .resting⟩
  duty := [.p1, .p2, .p3]
  fillK := 0
  boostK := 0
  reserve := false
  circ := false
  limit := .zero
  spacing := 65535
  stagnation := 60
  stagnationSecs := 0
  windowOpen := false
  rotationPending := false
  inletRequest := false

/-- A valve after a full restart (R91), before the guard asks for the inlet. DESIGN CHOICE (log 9): the simulated stem,
to which R90 gives no value outside COMMISSION, stands at 0; it stands as it is when COMMISSION is left. -/
def Valve.reset : Valve where
  state := .unhomed
  position := none
  target := none
  owner := .none
  waiting := none
  op := none
  endStop := .opened
  fromFault := false
  unread := false
  phase := none
  seat := none
  stuck := none
  stem := 0
  saved := none

/-- The valves after a full restart: the guard has asked for the inlet at 0, which homes it (R91, R132 c). -/
def Valves.reset : Valves where
  inlet := { Valve.reset with state := .homing, owner := .guard, unread := true, phase := some (.seek 0) }
  dump := .reset

/-- A stopped timer at 0. -/
def Timer.stopped : Timer := ⟨false, 0⟩

/-- The guard record after a full restart (R132) with the OVER float DRY, before it asks for the inlet. -/
def GuardCore.reset : GuardCore where
  state := .shut
  reason := .restart
  high := false
  highHigh := false
  fast := false
  latch := false
  release := .stopped
  runOn := .stopped
  autoClear := .stopped
  autoClearSecs := 0
  inletHold := none
  dumpHold := none

/-- The guard after a full restart: it holds the inlet at 0 (R132 c). -/
def Guard.reset : Guard where
  core := { GuardCore.reset with inletHold := some 0 }
  silence := false
  age := 0
  ageSecs := 0
  saved := none

/-- The fill plan after a restart (R115 a). -/
def Plan.reset : Plan where
  state := .idle
  reason := none
  levelUsed := 0
  need := 0
  available := 0
  kNeed := 0
  kMax := 0
  shortfall := false
  finish := none
  topped := false

/-- A window record that has been discarded (R115 b). -/
def WindowRecord.empty : WindowRecord := ⟨none, 0, 0, false⟩

/-- The fill unit after a full restart (R115) with the LOW float WET. -/
def Fill.reset : Fill where
  plan := .reset
  draw := 150
  windowOpen := false
  minuteSecs := 0
  window := .empty
  blind := 0
  boost := none
  boostEnd := none
  lowWet := 0
  lowWetSecs := 0

/-- A sensor record right after a restart (R149 b), before its first read. -/
def Sensor.reset : Sensor := ⟨none, false, 0, 0⟩

/-- A zone that a restart leaves OFF (R149 a). -/
def ZoneRec.reset : ZoneRec where
  state := .off
  timer := 65535
  onSecs := 0
  boost := false
  freeze := 0
  freezeSecs := 0
  fallback := none

/-- The circulation record after a restart (R149 c). -/
def Circ.reset : Circ := ⟨.quiet, 0, 0, 0, none⟩

/-- A sensor whose first read after the restart was bad (R133). -/
def Sensor.firstBad : Sensor := ⟨none, false, 1, 0⟩

/-- The frost unit after a full restart (R149), its first reads taken from a bus that answers nothing (log 9). -/
def Frost.reset : Frost where
  zones := ⟨.reset, .reset, .reset, .reset⟩
  sensors := ⟨.firstBad, .firstBad, .firstBad, .firstBad⟩
  air := .firstBad
  circ := .reset
  realGood := .silent

/-- An alarm record after a restart (R158 a). -/
def AlarmRec.reset : AlarmRec := ⟨.quiet, none, none, 0⟩

/-- The alarm table after a first power-on: all QUIET, then STORE raised (R158, R187 d). -/
def Alarms.reset : Alarms where
  table := List.replicate 18 .reset ++ ⟨.active, some 1, some none, 1⟩ :: List.replicate 5 .reset
  raiseCounter := 2
  changes := 1

/-- A counter after a full restart whose start after is none (R173). -/
def Counter.reset : Counter := ⟨0, false, true, false⟩

/-- The STATUS notice of the restart (R187 c): cause COLD, mode SETUP, store DEFAULTS, event RESTART, guard SHUT for
RESTART, tariff DEAR. -/
def statusAtReset : Notice := ⟨.status, 0, [0, 0, 1, 0, 2, 1, 1, 0]⟩

/-- The ALARM notice of STORE (R157). -/
def alarmAtReset : Notice :=
  ⟨.alarm, 0, [0, 0, 0, 1, 19, 18, 0, 1, 0, 19, 1, 5, 0, 0, 0, 1, 0, 0, 0, 0, 0, 0, 0, 0, 0]⟩

/-- The telemetry unit after a full restart (R173), with the notices of the restart. -/
def Telem.reset : Telem where
  log := []
  pointCounter := 0
  inflow := 0
  interval := 0
  batch := []
  report := 0
  reference := none
  queue := [statusAtReset, alarmAtReset]
  gap := false
  counters := ⟨.reset, .reset, .reset, .reset⟩
  clear := none
  clearSecs := 0

/-- The acting and reporting blocks after reset. -/
def Plant.reset : Plant where
  load := .reset
  pumps := .reset
  valves := .reset
  guard := .reset
  fill := .reset
  frost := .reset
  alarms := .reset
  telem := .reset
  cut := false

/-- No link flag set. -/
def LinkFlags.clear : LinkFlags := ⟨false, false, false, false⟩

/-- The link unit after a full restart (R180). -/
def Link.reset : Link where
  rx := none
  queue := []
  slot := none
  sending := none
  flags := .clear
  paused := false
  silence := false
  supervision := 0
  rate := 0

/-- The machine right after reset, with no command waiting. -/
def State.reset : State where
  pending := []
  env := .reset
  plant := .reset
  link := .reset

end Sys2Proof.Machine
end

