-- ==== Sys2Proof/Machine/Ops.lean ====
section
/-! DEFINITION. The named operations over the state that every block uses: reading and writing one pump's, zone's,
counter's or valve's record, ordering by a number, the writers of each block, and the hand-overs (`Sig`) by which one
block acts on another inside one event. -/

namespace Sys2Proof.Machine

/-! ### One record of several -/

/-- The pumps in order (R51). -/
def allPumps : List Pump := [.p1, .p2, .p3]

/-- The zones in order (R136). -/
def allZones : List Zone := [.z1, .z2, .z3, .z4]

/-- The counters in order (R169). -/
def allCounters : List CounterId := [.c1, .c2, .c3, .c4]

/-- The value for one pump. -/
def PerPump.get {α : Type} (t : PerPump α) : Pump → α
  | .p1 => t.p1
  | .p2 => t.p2
  | .p3 => t.p3

/-- The value for one pump replaced. -/
def PerPump.set {α : Type} (t : PerPump α) (p : Pump) (x : α) : PerPump α :=
  match p with
  | .p1 => { t with p1 := x }
  | .p2 => { t with p2 := x }
  | .p3 => { t with p3 := x }

/-- A function applied to the value of every pump. -/
def PerPump.map {α β : Type} (f : α → β) (t : PerPump α) : PerPump β := ⟨f t.p1, f t.p2, f t.p3⟩

/-- The value for one zone. -/
def PerZone.get {α : Type} (t : PerZone α) : Zone → α
  | .z1 => t.z1
  | .z2 => t.z2
  | .z3 => t.z3
  | .z4 => t.z4

/-- The value for one zone replaced. -/
def PerZone.set {α : Type} (t : PerZone α) (z : Zone) (x : α) : PerZone α :=
  match z with
  | .z1 => { t with z1 := x }
  | .z2 => { t with z2 := x }
  | .z3 => { t with z3 := x }
  | .z4 => { t with z4 := x }

/-- A function applied to the value of every zone. -/
def PerZone.map {α β : Type} (f : α → β) (t : PerZone α) : PerZone β := ⟨f t.z1, f t.z2, f t.z3, f t.z4⟩

/-- The value for one counter. -/
def PerCounter.get {α : Type} (t : PerCounter α) : CounterId → α
  | .c1 => t.c1
  | .c2 => t.c2
  | .c3 => t.c3
  | .c4 => t.c4

/-- The value for one counter replaced. -/
def PerCounter.set {α : Type} (t : PerCounter α) (c : CounterId) (x : α) : PerCounter α :=
  match c with
  | .c1 => { t with c1 := x }
  | .c2 => { t with c2 := x }
  | .c3 => { t with c3 := x }
  | .c4 => { t with c4 := x }

/-- A function applied to the value of every counter. -/
def PerCounter.map {α β : Type} (f : α → β) (t : PerCounter α) : PerCounter β := ⟨f t.c1, f t.c2, f t.c3, f t.c4⟩

/-- One valve's record. -/
def Valves.get (vs : Valves) : ValveId → Valve
  | .inlet => vs.inlet
  | .dump => vs.dump

/-- One valve's record replaced. -/
def Valves.set (vs : Valves) (v : ValveId) (r : Valve) : Valves :=
  match v with
  | .inlet => { vs with inlet := r }
  | .dump => { vs with dump := r }

/-- The zone's answer on the sensor bus. -/
def Bus.zone (b : Bus) : Zone → Option Int
  | .z1 => b.z1
  | .z2 => b.z2
  | .z3 => b.z3
  | .z4 => b.z4

/-- The number of a pump, 1 to 3. -/
def pumpNumber : Pump → Nat
  | .p1 => 1
  | .p2 => 2
  | .p3 => 3

/-- The pump of a number. -/
def pumpOf : Nat → Option Pump
  | 1 => some .p1
  | 2 => some .p2
  | 3 => some .p3
  | _ => none

/-- The number of a zone, 1 to 4. -/
def zoneNumber : Zone → Nat
  | .z1 => 1
  | .z2 => 2
  | .z3 => 3
  | .z4 => 4

/-- The number of a counter, 1 to 4. -/
def CounterId.number : CounterId → Nat
  | .c1 => 1
  | .c2 => 2
  | .c3 => 3
  | .c4 => 4

/-- The counter of a number. -/
def counterOf : Nat → Option CounterId
  | 1 => some .c1
  | 2 => some .c2
  | 3 => some .c3
  | 4 => some .c4
  | _ => none

/-! ### Ordering by a number -/

/-- A value put before the first entry whose key is not less. -/
def insertBy {α : Type} (key : α → Nat) (x : α) : List α → List α
  | [] => [x]
  | y :: ys => if key x ≤ key y then x :: y :: ys else y :: insertBy key x ys

/-- The entries in rising order of a key, entries of one key in the order they had. -/
def sortBy {α : Type} (key : α → Nat) : List α → List α
  | [] => []
  | x :: xs => insertBy key x (sortBy key xs)

/-- The first place (from 1) of a pump in a list, or 0. -/
def placeIn (p : Pump) : List Pump → Nat
  | [] => 0
  | q :: qs => if p = q then 1 else match placeIn p qs with | 0 => 0 | k + 1 => k + 2

/-! ### Writing one block -/

/-- The plant with another load table. -/
def Plant.setLoad (p : Plant) (x : LoadTable) : Plant := { p with load := x }
/-- The plant with another pump unit. -/
def Plant.setPumps (p : Plant) (x : Pumps) : Plant := { p with pumps := x }
/-- The plant with other valves. -/
def Plant.setValves (p : Plant) (x : Valves) : Plant := { p with valves := x }
/-- The plant with another guard. -/
def Plant.setGuard (p : Plant) (x : Guard) : Plant := { p with guard := x }
/-- The plant with another fill unit. -/
def Plant.setFill (p : Plant) (x : Fill) : Plant := { p with fill := x }
/-- The plant with another frost unit. -/
def Plant.setFrost (p : Plant) (x : Frost) : Plant := { p with frost := x }
/-- The plant with another alarm unit. -/
def Plant.setAlarms (p : Plant) (x : Alarms) : Plant := { p with alarms := x }
/-- The plant with another telemetry unit. -/
def Plant.setTelem (p : Plant) (x : Telem) : Plant := { p with telem := x }

/-- The plant with one pump's record replaced. -/
def Plant.setPump (P : Plant) (p : Pump) (r : PumpRec) : Plant :=
  P.setPumps { P.pumps with recs := P.pumps.recs.set p r }

/-- The plant with one valve's record replaced. -/
def Plant.setValve (P : Plant) (v : ValveId) (r : Valve) : Plant := P.setValves (P.valves.set v r)

/-- The plant with one zone's record replaced. -/
def Plant.setZone (P : Plant) (z : Zone) (r : ZoneRec) : Plant :=
  P.setFrost { P.frost with zones := P.frost.zones.set z r }

/-- The plant with the guard's saved-and-restored record replaced. -/
def Plant.setCore (P : Plant) (c : GuardCore) : Plant := P.setGuard { P.guard with core := c }

/-- The state with another environment. -/
def State.setEnv (s : State) (e : Env) : State := { s with env := e }
/-- The state with another plant. -/
def State.setPlant (s : State) (p : Plant) : State := { s with plant := p }
/-- The state with another link unit. -/
def State.setLink (s : State) (l : Link) : State := { s with link := l }
/-- The state with other working settings. -/
def State.setCfg (s : State) (c : Working) : State := { s with env := { s.env with cfg := c } }
/-- The state with another level unit. -/
def State.setLevel (s : State) (l : Level) : State := { s with env := { s.env with level := l } }
/-- The state with another clock and tariff unit. -/
def State.setClock (s : State) (c : Clock) : State := { s with env := { s.env with clock := c } }
/-- The state with another mode and store unit. -/
def State.setSys (s : State) (y : Sys) : State := { s with env := { s.env with sys := y } }
/-- The state with other input pins. -/
def State.setPins (s : State) (p : Pins) : State := { s with env := { s.env with pins := p } }

/-! ### Hand-overs between blocks -/

/-- The events of a STATUS notice (R188), codes 0 to 3. -/
inductive StatusEvent where
  | restart | mode | guard | store
deriving DecidableEq, Repr

/-- A hand-over from one block to another inside one event: "a block hands X to the Y unit", or one part of a piece of
work that a rule orders (the a to d of R57). `Machine/Cascade.lean` carries them out, the first first, each with all that
follows from it before the next. -/
inductive Sig where
  -- alarm unit and telemetry unit
  /-- a condition appears or goes (R151) -/
  | cond (k : AlarmKind) (present : Bool)
  /-- a STATUS notice is queued (R188) -/
  | status (ev : StatusEvent)
  -- load-share unit
  /-- an owner's claim (R37) -/
  | claim (l : Load) (c : LoadClass)
  /-- an owner's class change (R38) -/
  | classChange (l : Load) (c : LoadClass)
  /-- an owner's release (R39) -/
  | release (l : Load)
  /-- a grant walk (R40) -/
  | walk
  /-- the cap in force is set again (R33) -/
  | setCap
  -- pump unit
  /-- a call evaluation (R57) -/
  | callEval
  /-- its uncalls (R57 a) -/
  | callUncalls
  /-- the taking of a pending rotation (R55 c) -/
  | rotationCheck
  /-- its demands served (R57 b) -/
  | callServe
  /-- its calls (R57 c) -/
  | callCalls
  /-- the inlet request formed again (R59) -/
  | inletRequest
  /-- a start check (R60) -/
  | startCheck
  /-- a change of a pump's state, handed to the guard (R52) -/
  | pumpState
  /-- a change of the duty list (R54) -/
  | dutyChanged
  /-- the rotation request of a window end (R55) -/
  | rotationRequest
  /-- the guard limit handed (R56) -/
  | limit (l : Limit)
  /-- the circulation demand handed (R143) -/
  | circDemand (on : Bool)
  /-- a window start handed to the pump unit (R55, R103 a) -/
  | pumpsWindowStart
  /-- a window end handed to the pump unit (R55, R104 d) -/
  | pumpsWindowEnd
  /-- the inlet's position or target has changed (R65, R88 a) -/
  | inletMoved
  /-- the inlet has left FAULT, or a homing asked by the pumps has completed (R59, R82) -/
  | inletAskAgain
  -- valve unit
  /-- a request of the guard (R81) -/
  | guardAsk (v : ValveId) (target : Nat)
  /-- a release by the guard (R83 a) -/
  | guardRelease (v : ValveId)
  /-- a request of the pumps (R82) -/
  | pumpsAsk (r : PumpsRequest)
  /-- a release by the pumps (R83 b) -/
  | pumpsRelease
  -- overflow guard
  /-- the mark tests of a publication (R119 to R121) -/
  | guardTests
  /-- the fast mark's test alone (R121) -/
  | fastTest
  /-- a guard evaluation (R118) -/
  | guardEval
  /-- a float change of the OVER float (R125, R126) -/
  | overChange
  /-- the start and stop of the auto-clear timer (R129) -/
  | autoClearJudge
  -- fill unit
  /-- a publication handed to the fill unit; whether it changes the quality (R94 c) -/
  | fillPublication (qualityChanged : Bool)
  /-- a plan evaluation (R94) -/
  | planEval
  /-- a PLAN notice (R113), with the boost end when a boost has just ended -/
  | planNotice (ended : Option BoostEnd)
  /-- the reserve is judged (R107) -/
  | reserveJudge
  /-- a publication ends an active boost, or does not (R110 a, b) -/
  | boostTest
  /-- the end of an active boost (R110) -/
  | endBoost (r : BoostEnd)
  /-- a window start handed to the fill unit (R103) -/
  | fillWindowStart
  /-- a window end handed to the fill unit (R104) -/
  | fillWindowEnd
  -- frost unit
  /-- one read of a zone's sensor (R133) -/
  | zoneRead (z : Zone) (answer : Option Int)
  /-- one read of the air sensor (R133) -/
  | airRead (answer : Option Int)
  /-- FREEZE judged on the freeze timers as they stand (R142) -/
  | freezeAlarm
  /-- a judgement of a zone (R137) -/
  | zoneJudge (z : Zone)
  /-- a judgement of a zone's class (R139) -/
  | zoneClass (z : Zone)
  /-- the fallback duty applied (R140) -/
  | zoneDuty (z : Zone)
  /-- the circulation test while QUIET (R144) -/
  | circTest
  /-- the retry test while REFUSED (R145) -/
  | circRetry
  /-- a refusal of circulation (R145) -/
  | circRefuse (r : Refused)
  /-- the entry into RUNNING of a pump serving circulation (R146) -/
  | circEntry
  /-- the exit from RUNNING of a pump serving circulation (R146 b) -/
  | circExit
  -- telemetry unit
  /-- a publication handed to the telemetry unit (R160 b) -/
  | telemPublication
deriving DecidableEq, Repr

end Sys2Proof.Machine
end

