-- ==== Sys2Proof/Machine/Clock.lean ====
section
/-! DEFINITION. The clock and tariff unit (Part 2): the day clock, the calendar judgement, the tariff line, the tariff
state, the minutes remaining and the learned length. -/

namespace Sys2Proof.Machine

/-- The reading of the day clock, or the unset mark (R21). -/
def Clock.stamp (c : Clock) : Option Stamp := if c.isSet then some ⟨c.minute, c.second⟩ else none

/-- A window covers a minute-of-week (R23). -/
def Window.covers (w : Window) (m : Nat) : Bool :=
  if w.start < w.stop then w.start ≤ m && m < w.stop
  else if w.stop < w.start then w.start ≤ m || m < w.stop
  else false

/-- The calendar judgement (R23), with the current window when it is CHEAP. -/
inductive Judgement where
  | unset
  | cheap (w : Window)
  | dear
deriving DecidableEq, Repr

/-- The calendar judgement at the clock's reading (R23). -/
def judge (ws : List Window) (c : Clock) : Judgement :=
  if c.isSet then
    match ws.find? (·.covers c.minute) with
    | some w => .cheap w
    | none => .dear
  else .unset

/-- The line is STALE (R26). -/
def Clock.isStale (c : Clock) : Bool := Config.staleLimit ≤ c.stale

/-- The basis of the tariff state (R27), CALENDAR before LINE as R31 lists them. -/
inductive Basis where
  | calendar | line
deriving DecidableEq, Repr

/-- The code of a basis. -/
def Basis.code : Basis → Nat | .calendar => 0 | .line => 1

/-- The basis in force (R27). -/
def basisOf (src : Source) (c : Clock) : Basis :=
  match src with
  | .calendar => .calendar
  | .line => .line
  | .lineElseCalendar => if c.isStale then .calendar else .line

/-- The tariff state from the calendar (R27). -/
def calendarTariff (ws : List Window) (c : Clock) : Tariff :=
  match judge ws c with
  | .unset => .unknown
  | .cheap _ => .cheap
  | .dear => .dear

/-- The tariff state from the line (R27). -/
def lineTariff (c : Clock) : Tariff :=
  if c.isStale then .unknown else if c.line = .closed then .cheap else .dear

/-- The tariff state that an evaluation gives (R27). -/
def tariffOf (w : Working) (c : Clock) : Tariff :=
  match basisOf w.set.source c with
  | .calendar => calendarTariff w.windows c
  | .line => lineTariff c

/-- The minutes from a minute-of-week to the end of a window that covers it (R29 a). -/
def minutesTo (w : Window) (m : Nat) : Nat := if m < w.stop then w.stop - m else w.stop + Config.weekMinutes - m

/-- The minutes since the line went cheap (R26). -/
def Clock.sinceCheap (c : Clock) : Nat := match c.lineCheap with | some l => l.minutes | none => 0

/-- The minutes remaining, T_rem (R29). -/
def tRem (w : Working) (c : Clock) : Nat :=
  if c.tariff = .cheap then
    match basisOf w.set.source c with
    | .calendar => match judge w.windows c with | .cheap win => minutesTo win c.minute | _ => 0
    | .line => c.learned - c.sinceCheap
  else 0

/-- What a tariff change is handed as (R28). DESIGN CHOICE (log 6): TARIFF_UNKNOWN's appearance or going first, then the
window start, its cap before the fill unit, or the window end, the fill unit before its cap; R28 fixes no order. -/
def tariffChangeSigs (old new : Tariff) : List Sig :=
  (if new = .unknown && old ≠ .unknown then [Sig.cond .tariffUnknown true] else []) ++
  (if new ≠ .unknown && old = .unknown then [Sig.cond .tariffUnknown false] else []) ++
  (if new = .cheap && old ≠ .cheap then [Sig.setCap, Sig.fillWindowStart] else []) ++
  (if new ≠ .cheap && old = .cheap then [Sig.fillWindowEnd, Sig.setCap] else [])

/-- The unit after an evaluation of the tariff state (R27). -/
def Clock.evaluated (w : Working) (c : Clock) : Clock := { c with tariff := tariffOf w c }

/-- One second of the day clock (R21): second 59 passes to 0 and the minute rises, 10079 to 0. -/
def Clock.tickMinute (c : Clock) : Clock :=
  { c with second := 0, minute := if c.minute + 1 < Config.weekMinutes then c.minute + 1 else 0 }

/-! ### The tariff line (R26) -/

/-- The other reading of a contact. -/
def otherContact : Contact → Contact
  | .closed => .opened
  | .opened => .closed

/-- A contact read by the line's debounce (R26). -/
def Clock.seeLine (c : Clock) (k : Contact) : Clock :=
  if k = c.line then { c with lineDebounce := none } else { c with lineDebounce := some (c.lineDebounce.getD 0) }

/-- The learned length after a cheap period that has ended (R30). -/
def learnedAfter (c : Clock) : Nat :=
  match c.lineCheap with
  | some ⟨m, true⟩ => if 30 ≤ m && m ≤ 1440 then m else c.learned
  | _ => c.learned

/-- A change of the reported line state (R26, R30): stale count 0, the minute counter afresh, the line cheap start
marked at CLOSED, the learned length measured at OPEN. -/
def Clock.flipLine (c : Clock) : Clock :=
  let k := otherContact c.line
  { c with line := k, lineDebounce := none, stale := 0, lineSecs := 0,
           learned := if k = .opened then learnedAfter c else c.learned,
           lineCheap := if k = .closed then some ⟨0, true⟩ else none }

/-- A tick of the minute counter (R26): stale count and minutes since the line went cheap. -/
def Clock.lineTick (c : Clock) : Clock :=
  { c with lineSecs := 0, stale := min Config.staleLimit (c.stale + 1),
           lineCheap := c.lineCheap.map fun l => { l with minutes := satAdd maxU16 l.minutes 1 } }

end Sys2Proof.Machine
end

