-- ==== Sys2Proof/Machine/Operands.lean ====
section
/-! DEFINITION. The encodings of the message link (R175, R181): numbers, signed numbers, absent values, enumerations,
marks and lists as bytes; the reading of a request's body; the frame check. -/

namespace Sys2Proof.Machine

/-! ### Numbers as bytes, high byte first (R181 a) -/

/-- One byte holding a number. -/
def u8 (n : Nat) : List Byte := [BitVec.ofNat 8 n]

/-- Two bytes holding a number, high byte first. -/
def u16 (n : Nat) : List Byte := [BitVec.ofNat 8 (n / 256), BitVec.ofNat 8 n]

/-- Four bytes holding a number, high byte first. -/
def u32 (n : Nat) : List Byte := u16 (n / 65536) ++ u16 (n % 65536)

/-- The two's-complement residue of a signed number in two bytes. -/
def residue16 (i : Int) : Nat := (i % 65536).toNat

/-- The two's-complement residue of a signed number in four bytes. -/
def residue32 (i : Int) : Nat := (i % 4294967296).toNat

/-- Two bytes holding a signed number. -/
def s16 (i : Int) : List Byte := u16 (residue16 i)

/-- Four bytes holding a signed number. -/
def s32 (i : Int) : List Byte := u32 (residue32 i)

/-- A mark: one byte, 0 or 1 (R181 c). -/
def mark (b : Bool) : List Byte := [if b then 1 else 0]

/-! ### Absent values (R181 b) -/

/-- A one-byte number or all ones. -/
def u8? (o : Option Nat) : List Byte := match o with | some n => u8 n | none => [0xFF]

/-- A two-byte number or all ones. -/
def u16? (o : Option Nat) : List Byte := match o with | some n => u16 n | none => [0xFF, 0xFF]

/-- A four-byte number or all ones. -/
def u32? (o : Option Nat) : List Byte := match o with | some n => u32 n | none => [0xFF, 0xFF, 0xFF, 0xFF]

/-- A two-byte signed number or 0x8000. -/
def s16? (o : Option Int) : List Byte := match o with | some i => s16 i | none => [0x80, 0x00]

/-- A presence byte and a field whose range reaches all ones. -/
def withPresence (enc : Option Nat → List Byte) (o : Option Nat) : List Byte := mark o.isSome ++ enc o

/-- A reading of the day clock, two bytes and one byte, all ones when unset or absent. -/
def stampBytes (o : Option Stamp) : List Byte := u16? (o.map (·.minute)) ++ u8? (o.map (·.second))

/-- A list: one count byte and the entries (R181 d). -/
def listBytes {α : Type} (enc : α → List Byte) (xs : List α) : List Byte := u8 xs.length ++ xs.flatMap enc

/-! ### Enumerations (R181 c): coded from 0 in the order their Part first lists the values, or as a layout gives -/

/-- WET, DRY (R12). -/
def wetCode : Wet → Nat | .wet => 0 | .dry => 1
/-- CLOSED, OPEN (R26, R74). -/
def contactCode : Contact → Nat | .closed => 0 | .opened => 1
/-- PRESENT, ABSENT (R51). -/
def presenceCode : Presence → Nat | .present => 0 | .absent => 1
/-- Quality, as in the trend point. -/
def Quality.code : Quality → Nat | .good => 0 | .held => 1 | .invalid => 2
/-- Tariff state, as in the trend point. -/
def Tariff.code : Tariff → Nat | .cheap => 0 | .dear => 1 | .unknown => 2
/-- Source setting (R27). -/
def Source.code : Source → Nat | .calendar => 0 | .line => 1 | .lineElseCalendar => 2
/-- Mode, as in the STATUS notice. -/
def Mode.code : Mode → Nat | .setup => 0 | .run => 1 | .commission => 2
/-- Restart cause, as in the STATUS notice. -/
def Cause.code : Cause → Nat | .cold => 0 | .dip => 1 | .pin => 2 | .request => 3
/-- Store state, as in the STATUS notice. -/
def StoreState.code : StoreState → Nat | .loaded => 0 | .defaults => 1 | .commitFailed => 2
/-- Event of a STATUS notice. -/
def StatusEvent.code : StatusEvent → Nat | .restart => 0 | .mode => 1 | .guard => 2 | .store => 3
/-- Load, in table order (R34). -/
def Load.code : Load → Nat | .pump p => pumpNumber p - 1 | .zone z => zoneNumber z + 2
/-- Class of a claim: its number, 1 to 4 (R34; log 12). -/
def LoadClass.number : LoadClass → Nat | .freeze => 1 | .secure => 2 | .fill => 3 | .warm => 4
/-- Claim state (R34). -/
def Claim.code : Claim → Nat | .idle => 0 | .waiting _ _ => 1 | .granted _ _ _ => 2
/-- Pump state (R52). -/
def PumpState.code : PumpState → Nat
  | .off => 0 | .called => 1 | .starting => 2 | .running => 3 | .resting => 4 | .lockout => 5 | .out => 6
/-- Guard limit (R56). -/
def Limit.code : Limit → Nat | .none => 0 | .one => 1 | .zero => 2
/-- Valve, as in the DONE notice. -/
def valveCode : ValveId → Nat | .inlet => 0 | .dump => 1
/-- Valve state, as in the DONE notice. -/
def ValveState.code : ValveState → Nat | .unhomed => 0 | .idle => 1 | .moving => 2 | .homing => 3 | .fault => 4
/-- Owner (R74). -/
def Owner.code : Owner → Nat | .none => 0 | .host => 1 | .pumps => 2 | .guard => 3
/-- Guard state, as in the trend point. -/
def GuardState.code : GuardState → Nat | .normal => 0 | .watch => 1 | .shut => 2 | .trip => 3 | .blind => 4
/-- Guard reason, as in the STATUS notice. DESIGN CHOICE (log 12): in READ GUARD too, 0 for an absent one, and not as R181 b and c would
code R117's list. -/
def GuardReason.code : GuardReason → Nat
  | .none => 0 | .restart => 1 | .highHigh => 2 | .overFloat => 3 | .invalid => 4 | .high => 5 | .fast => 6
/-- Plan state (R93). -/
def PlanState.code : PlanState → Nat | .idle => 0 | .filling => 1 | .topped => 2 | .suspended => 3 | .blindFill => 4
/-- Suspension reason (R93). -/
def SuspendReason.code : SuspendReason → Nat | .mode => 0 | .guard => 1 | .tariff => 2 | .noPump => 3 | .valve => 4
/-- Boost end (R110). -/
def BoostEnd.code : BoostEnd → Nat
  | .reached => 0 | .invalid => 1 | .guard => 2 | .mode => 3 | .silent => 4 | .cancelled => 5
/-- Zone state (R136). -/
def ZoneState.code : ZoneState → Nat | .off => 0 | .want => 1 | .heat => 2 | .fallback => 3 | .disabled => 4
/-- Circulation state (R143). -/
def CircState.code : CircState → Nat | .quiet => 0 | .demanded => 1 | .run => 2 | .refused => 3
/-- Reason of a refusal (R143). -/
def Refused.code : Refused → Nat
  | .level => 0 | .headroom => 1 | .guard => 2 | .noPump => 3 | .mode => 4 | .wait => 5 | .guardEnd => 6
/-- Alarm state (R150). -/
def AlarmState.code : AlarmState → Nat | .quiet => 0 | .active => 1 | .acked => 2 | .latched => 3
/-- Counter event (R169). -/
def CounterEvent.code : CounterEvent → Nat
  | .pumpStarts => 0 | .pumpRunSeconds => 1 | .inflowLitres => 2 | .heatEnergy => 3 | .guardShuts => 4
  | .dumpOpens => 5 | .linkFaults => 6 | .circRuns => 7 | .alarmRaises => 8
/-- Tariff qualifier (R169). -/
def Qualifier.code : Qualifier → Nat | .any => 0 | .cheap => 1 | .dear => 2

/-- ON, OFF (R107, R136): ON is listed first. -/
def onOff (b : Bool) : List Byte := [if b then 0 else 1]

/-! ### Reading a request's body -/

/-- The number in a run of bytes, high byte first. -/
def number (bs : List Byte) : Nat := bs.foldl (fun n b => n * 256 + b.toNat) 0

/-- The number in `len` bytes of a body from `at`. -/
def field (body : List Byte) (at_ len : Nat) : Nat := number ((body.drop at_).take len)

/-- A residue of two bytes as a signed number. -/
def signed16 (n : Nat) : Int := if n < 32768 then (n : Int) else (n : Int) - 65536

/-- A residue of four bytes as a signed number. -/
def signed32 (n : Nat) : Int := if n < 2147483648 then (n : Int) else (n : Int) - 4294967296

/-- A body has the length of its fields and ends in a reserved byte of 0 (R181 f). -/
def wellFormedBody (len : Nat) (body : List Byte) : Bool := body.length == len && body.getLast? == some 0

/-! ### The frame (R175) -/

/-- One shift of the check: the bit that leaves the top brings in the polynomial. -/
def crcShift (c : BitVec 16) : BitVec 16 := if c.msb then (c <<< 1) ^^^ 0x1021 else c <<< 1

/-- One byte joined into the check and eight shifts made. -/
def crcByte (c : BitVec 16) (b : Byte) : BitVec 16 :=
  crcShift (crcShift (crcShift (crcShift (crcShift (crcShift (crcShift (crcShift (c ^^^ (b.zeroExtend 16 <<< 8)))))))))

/-- The check after a run of bytes, from a value before it. The value is worked out before the next byte joins, so that the
kernel can evaluate it over the whole store. -/
def crcFrom : List Byte → BitVec 16 → BitVec 16
  | [], c => c
  | b :: bs, c =>
    match (crcByte c b).toNat with
    | 0 => crcFrom bs 0
    | n + 1 => crcFrom bs (BitVec.ofNat 16 (n + 1))

/-- The check over a run of bytes. -/
def crc (bs : List Byte) : BitVec 16 := crcFrom bs 0xFFFF

/-- The bytes of a frame: lead, length, kind, tag, body, check (R175). -/
def frameBytes (kind tag : Byte) (body : List Byte) : List Byte :=
  let inner := BitVec.ofNat 8 (body.length + 2) :: kind :: tag :: body
  Config.leadByte :: inner ++ u16 (crc inner).toNat

end Sys2Proof.Machine
end

