-- ==== Sys2Proof/Machine/Flags.lean ====
section
/-! DEFINITION. The link flags (R176, R177, R179), the result codes and the reply header. -/

namespace Sys2Proof.Machine

/-- The drops of the receiver and the end of a silence, each with its link flag (R176, R179). -/
inductive LinkFlag where
  | gap | check | overrun | silent
deriving DecidableEq, Repr

/-- One link flag set; the others as they stand (R177: several drops of one kind show as one set flag). -/
def LinkFlags.raise (f : LinkFlags) : LinkFlag → LinkFlags
  | .gap => { f with gap := true }
  | .check => { f with check := true }
  | .overrun => { f with overrun := true }
  | .silent => { f with silent := true }

/-- One bit of the flags byte. -/
def flagBit (b : Bool) (weight : Nat) : Nat := if b then weight else 0

/-- The flags byte of the reply header: bit 0 GAP, bit 1 CHECK, bit 2 OVERRUN, bit 3 SILENT (R181, reply header). -/
def LinkFlags.byte (f : LinkFlags) : Byte :=
  BitVec.ofNat 8 (flagBit f.gap 1 + flagBit f.check 2 + flagBit f.overrun 4 + flagBit f.silent 8)

/-- The result codes (R177). -/
inductive Code where
  | ok | accepted | clamped | busy | form | range | state | unknown
deriving DecidableEq, Repr

/-- The number of a result code (R177). -/
def Code.number : Code → Nat
  | .ok => 0 | .accepted => 1 | .clamped => 2 | .busy => 3 | .form => 4 | .range => 5 | .state => 6 | .unknown => 7

/-- OK, or CLAMPED when a value was brought into its range. -/
def okOr (clamped : Bool) : Code := if clamped then .clamped else .ok

/-- ACCEPTED, or CLAMPED when a value was brought into its range (00_scope.md section 4.5). -/
def acceptedOr (clamped : Bool) : Code := if clamped then .clamped else .accepted

/-- The body of a reply: the reply header and the content (R177). -/
def replyBody (f : LinkFlags) (c : Code) (content : List Byte) : List Byte :=
  u8 c.number ++ f.byte :: content

/-- The kind of a reply: the request's with its top bit set (R177). -/
def replyKind (k : Byte) : Byte := k ||| 0x80

/-- The results of a DONE notice (00_scope.md section 4.5), coded as in its layout (R181). -/
inductive DoneResult where
  | complete | fault | superseded | preempted | stopped
deriving DecidableEq, Repr

/-- The code of a DONE result (R181). -/
def DoneResult.code : DoneResult → Nat
  | .complete => 0 | .fault => 1 | .superseded => 2 | .preempted => 3 | .stopped => 4

end Sys2Proof.Machine
end

