-- ==== Sys2Proof/Machine/Level.lean ====
section
/-! DEFINITION. The level unit (Part 1): conversion, median, filter, quality machine, rate of rise, time to overflow,
floats and the volume of the geometry table. Functions of the unit's own state; the commands that call them are in
`LevelCommands.lean`. -/

namespace Sys2Proof.Machine

/-- A raw code is a good sample (R1 c). -/
def goodRaw (raw : Nat) : Bool := Config.rawGoodMin ≤ raw && raw ≤ Config.rawGoodMax

/-- R2 a. -/
def convertA (c : Settings) (raw : Nat) : Int := (raw : Int) + c.offsetTrim
/-- R2 b, truncated toward zero. -/
def convertB (c : Settings) (raw : Nat) : Int := Int.tdiv ((convertA c raw - Config.rawZero) * c.span) Config.rawSpan
/-- R2 c, truncated toward zero. -/
def convertC (c : Settings) (raw : Nat) : Int := Int.tdiv (convertB c raw * (10000 + c.gainTrim)) 10000
/-- The converted level of a good sample (R2 d). -/
def convert (c : Settings) (raw : Nat) : Nat := (clampInt 0 c.lTop (convertC c raw + c.datum)).toNat

/-- A value joins the median window at its newest end; the oldest of five leaves (R4). -/
def joinWindow (w : List Nat) (v : Nat) : List Nat :=
  if w.length < Config.windowSize then w ++ [v] else w.drop (w.length + 1 - Config.windowSize) ++ [v]

/-- The median of the window, which exists when it holds five values (R4). -/
def median (w : List Nat) : Option Nat :=
  if w.length = Config.windowSize then (sortBy id w)[2]? else none

/-- The published level: L_f when the quality is GOOD, the held level otherwise (section 1.4). -/
def Level.shown (lv : Level) : Nat := if lv.quality = .good then lv.filtered else lv.held

/-- The time to overflow (R11). -/
def tOvfOf (c : Settings) (lv : Level) : Nat :=
  match lv.rate with
  | none => Config.tOvfTop
  | some r =>
    if r ≤ 0 then Config.tOvfTop
    else if c.lOver ≤ lv.shown then 0
    else min Config.tOvfTop ((c.lOver - lv.shown) / r.toNat)

/-- The unit as a publication is made: the held level taken at a GOOD one (section 1.4), T_ovf recomputed (R11). -/
def Level.publish (c : Settings) (lv : Level) : Level :=
  let lv := { lv with published := true, held := lv.shown }
  { lv with tOvf := tOvfOf c lv }

/-- The filter seeded from the median (R5 a). -/
def Level.seed (lv : Level) : Level :=
  match median lv.window with
  | some m => { lv with filtered := m }
  | none => lv

/-- The filter averaged with the median (R5 b). -/
def Level.average (lv : Level) : Level :=
  match median lv.window with
  | some m => { lv with filtered := (7 * lv.filtered + m + 4) / 8 }
  | none => lv

/-- The action of a faulted sample on the quality (R6). -/
def Level.faulted (lv : Level) : Level :=
  let run := min Config.faultLimit (lv.faultRun + 1)
  let lv := { lv with goodRun := 0, goodSince := false }
  match lv.quality with
  | .good => { lv with quality := .held, faultRun := 1, rate := none }
  | .held => { lv with faultRun := run, quality := if run = Config.faultLimit then .invalid else .held }
  | .invalid => { lv with faultRun := run }

/-- The action of a good sample of converted level `v` (R7). -/
def Level.goodSample (lv : Level) (v : Nat) : Level :=
  let lv := { lv with window := joinWindow lv.window v, faultRun := 0,
                      goodRun := min Config.goodLimit (lv.goodRun + 1) }
  if lv.quality = .good then lv.average
  else if lv.quality = .held && !lv.published then
    if lv.window.length = Config.windowSize then { lv.seed with quality := .good } else lv
  else if lv.goodRun = Config.goodLimit then { lv.seed with quality := .good } else lv

/-- A sample makes a publication: with the published flag set, always; before it, when it seeds the filter or brings
INVALID (R9 a, b). -/
def Level.publishes (before after : Level) : Bool :=
  before.published || (after.quality != before.quality && after.quality != .held)

/-- One transducer sample (R1 to R7, R9): the last raw code kept, the sample classed, the quality machine moved, and
the publication made. -/
def Level.sample (c : Settings) (lv : Level) (raw : Nat) : Level :=
  let moved := if goodRaw raw then lv.goodSample (convert c raw) else lv.faulted
  let moved := { moved with lastRaw := raw, goodSince := moved.goodSince && moved.quality == Quality.good }
  if lv.publishes moved then moved.publish c else moved

/-- The rate decided at an expiry of the minute timer (R10 a, b). -/
def Level.rateNow (lv : Level) : Option Int :=
  match lv.snapshot with
  | some ⟨l, true⟩ =>
    if lv.goodSince then some (clampInt (-Config.rateLimit) Config.rateLimit ((lv.filtered : Int) - l)) else none
  | _ => none

/-- An expiry of the minute timer: the rate decided, then a new snapshot, T_ovf recomputed (R10, R11). -/
def Level.minute (c : Settings) (lv : Level) : Level :=
  let lv := { lv with rate := lv.rateNow, snapshot := some ⟨lv.filtered, lv.quality == Quality.good⟩,
                      goodSince := true, minuteSecs := 0 }
  { lv with tOvf := tOvfOf c lv }

/-- A lowering of L_top carried to the window, the filtered and the held level (R3). -/
def Level.lowerTop (lv : Level) (top : Nat) : Level :=
  { lv with window := lv.window.map (min top), filtered := min top lv.filtered, held := min top lv.held }

/-! ### Floats (R12) -/

/-- The other reading of a float. -/
def otherWet : Wet → Wet
  | .wet => .dry
  | .dry => .wet

/-- A contact read by a float's debounce: in agreement with the reported state it ends the wait, otherwise the wait
runs, begun afresh where none runs (R12). -/
def FloatRec.see (f : FloatRec) (w : Wet) : FloatRec :=
  if w = f.reported then { f with debounce := none } else { f with debounce := some (f.debounce.getD 0) }

/-- The reported state changed at the end of the debounce (R12). -/
def FloatRec.flip (f : FloatRec) : FloatRec := ⟨otherWet f.reported, none⟩

/-- One float's record. -/
def Level.float (lv : Level) : FloatId → FloatRec
  | .low => lv.low
  | .overFloat => lv.overFloat

/-- One float's record replaced. -/
def Level.setFloat (lv : Level) (f : FloatId) (r : FloatRec) : Level :=
  match f with
  | .low => { lv with low := r }
  | .overFloat => { lv with overFloat := r }

/-- One float disagrees with the level (R14 a, b). -/
def disagrees (w : Wet) (h tol l : Nat) : Bool :=
  match w with
  | .wet => l + tol < h
  | .dry => h + tol < l

/-- The LEVEL_DISAGREE condition (R14). -/
def levelDisagrees (c : Settings) (lv : Level) : Bool :=
  lv.quality == Quality.good &&
    (disagrees lv.low.reported c.hLow c.floatTol lv.shown || disagrees lv.overFloat.reported c.hOver c.floatTol lv.shown)

/-! ### Volume (R15) -/

/-- V(L) over the breakpoints (R15 a to c). -/
def volumeOf : List Breakpoint → Nat → Nat
  | [], _ => 0
  | [b], _ => b.volume
  | b :: b' :: rest, l =>
    if l < b'.level then b.volume + (b'.volume - b.volume) * (l - b.level) / (b'.level - b.level)
    else volumeOf (b' :: rest) l

/-- V(L), which does not exist while the table is absent (R15). -/
def Working.volume (w : Working) (l : Nat) : Option Nat := w.geometry.map (volumeOf · l)

/-- The hand-overs of a publication (R9): the disagreement test (R14), the end of a boost that it reaches or that INVALID ends, the
guard, the fill unit, the telemetry unit. The boost's end comes before the guard, so that a boost is reached before the guard acts
on the same level (R110). The rest of the order is a DESIGN CHOICE (log 5). The frost unit reads the estimate when its own events
come (R144). -/
def publicationSigs (e : Env) (qualityChanged : Bool) : List Sig :=
  [.cond .levelDisagree (levelDisagrees e.cfg.set e.level), .boostTest, .guardTests, .autoClearJudge, .guardEval,
   .fillPublication qualityChanged, .telemPublication]

end Sys2Proof.Machine
end

