-- ==== Sys2Proof/Machine/Load.lean ====
section
/-! DEFINITION. The load-share unit (Part 3): the load table, the waiting list, claims, class changes, releases, the
grant walk with zone revocation, the caps, and the two sequence counters. The owners' part of a grant or a revocation (R42) is
`ownerTakes` of `Cascade.lean`. -/

namespace Sys2Proof.Machine

/-- The seven loads in table order (R34). -/
def allLoads : List Load :=
  [.pump .p1, .pump .p2, .pump .p3, .zone .z1, .zone .z2, .zone .z3, .zone .z4]

/-- The rating of a load (R34). -/
def rating (c : Settings) : Load → Nat
  | .pump p => c.pumpRating.get p
  | .zone z => c.zoneRating.get z

/-- A record's claim (R34). -/
def LoadTable.claim (t : LoadTable) : Load → Claim
  | .pump p => t.pumps.get p
  | .zone z => t.zones.get z

/-- A record's claim replaced. -/
def LoadTable.put (t : LoadTable) (l : Load) (k : Claim) : LoadTable :=
  match l with
  | .pump p => { t with pumps := t.pumps.set p k }
  | .zone z => { t with zones := t.zones.set z k }

/-- The class of a claim, absent when IDLE. -/
def Claim.cls? : Claim → Option LoadClass
  | .idle => none
  | .waiting c _ => some c
  | .granted c _ _ => some c

/-- The claim sequence, absent when IDLE. -/
def Claim.seq? : Claim → Option Nat
  | .idle => none
  | .waiting _ n => some n
  | .granted _ n _ => some n

/-- The grant sequence, present when GRANTED. -/
def Claim.grant? : Claim → Option Nat
  | .granted _ _ g => some g
  | _ => none

/-- The claim is GRANTED. -/
def Claim.isGranted : Claim → Bool
  | .granted _ _ _ => true
  | _ => false

/-- The claim is WAITING. -/
def Claim.isWaiting : Claim → Bool
  | .waiting _ _ => true
  | _ => false

/-- The power a load draws on the cap: its rating while GRANTED. -/
def drawn (c : Settings) (t : LoadTable) (l : Load) : Nat := if (t.claim l).isGranted then rating c l else 0

/-- The granted sum (R34). -/
def grantedSum (c : Settings) (t : LoadTable) : Nat := (allLoads.map (drawn c t)).sum

/-- The freeze sum (R42). -/
def freezeSum (c : Settings) (t : LoadTable) : Nat :=
  (allZones.map fun z => if (t.zones.get z).cls? = some .freeze then c.zoneRating.get z else 0).sum

/-- The place of a WAITING record: by class, then by claim sequence (R36). -/
def waitKey (t : LoadTable) (l : Load) : Nat :=
  match t.claim l with
  | .waiting c n => c.number * 4294967296 + n
  | _ => 0

/-- The waiting list (R36). -/
def waitingList (t : LoadTable) : List Load :=
  sortBy (waitKey t) (allLoads.filter fun l => (t.claim l).isWaiting)

/-! ### Sequences (R35) -/

/-- A sequence renumbered among the present ones: one more than the number of smaller ones. -/
def rankAmong (ns : List Nat) (n : Nat) : Nat := (ns.filter (· < n)).length + 1

/-- The claim sequences held in the table. -/
def claimSeqs (t : LoadTable) : List Nat := allLoads.filterMap fun l => (t.claim l).seq?

/-- The grant sequences held in the table. -/
def grantSeqs (t : LoadTable) : List Nat := allLoads.filterMap fun l => (t.claim l).grant?

/-- A claim with its claim sequence renumbered. -/
def Claim.renumberSeq (ns : List Nat) : Claim → Claim
  | .idle => .idle
  | .waiting c n => .waiting c (rankAmong ns n)
  | .granted c n g => .granted c (rankAmong ns n) g

/-- A claim with its grant sequence renumbered. -/
def Claim.renumberGrant (ns : List Nat) : Claim → Claim
  | .granted c n g => .granted c n (rankAmong ns g)
  | k => k

/-- The claim sequences renumbered 1, 2, 3 and onward in their order, the counter continuing (R35). -/
def LoadTable.renumberClaims (t : LoadTable) : LoadTable :=
  let ns := claimSeqs t
  { t with pumps := t.pumps.map (·.renumberSeq ns), zones := t.zones.map (·.renumberSeq ns),
           claimCounter := ns.length + 1 }

/-- The grant sequences renumbered 1, 2, 3 and onward in their order, the counter continuing (R35). -/
def LoadTable.renumberGrants (t : LoadTable) : LoadTable :=
  let ns := grantSeqs t
  { t with pumps := t.pumps.map (·.renumberGrant ns), zones := t.zones.map (·.renumberGrant ns),
           grantCounter := ns.length + 1 }

/-- The table ready for a draw from the claim counter: renumbered first when the draw would pass its top (R35). -/
def LoadTable.readyClaim (t : LoadTable) : LoadTable := if t.claimCounter < maxU32 then t else t.renumberClaims

/-- The table ready for a draw from the grant counter (R35). -/
def LoadTable.readyGrant (t : LoadTable) : LoadTable := if t.grantCounter < maxU32 then t else t.renumberGrants

/-- A record made WAITING in a class, with a claim sequence drawn (R35, R37 a, R41 a, R43 b). -/
def LoadTable.wait (t : LoadTable) (l : Load) (c : LoadClass) : LoadTable :=
  let t := t.readyClaim
  { t.put l (.waiting c t.claimCounter) with claimCounter := t.claimCounter + 1 }

/-- A WAITING record granted, with a grant sequence drawn (R40 b); any other record is left as it is. -/
def LoadTable.grantTo (t : LoadTable) (l : Load) : LoadTable :=
  let t := t.readyGrant
  match t.claim l with
  | .waiting c n => { t.put l (.granted c n t.grantCounter) with grantCounter := t.grantCounter + 1 }
  | _ => t

/-- A GRANTED record revoked: WAITING in its class with a new claim sequence (R41 a, R43 b). -/
def LoadTable.revoke (t : LoadTable) (l : Load) : LoadTable :=
  match t.claim l with
  | .granted c _ _ => t.wait l c
  | _ => t

/-- Several records revoked, the first first. -/
def LoadTable.revokeAll (t : LoadTable) : List Load → LoadTable
  | [] => t
  | l :: ls => (t.revoke l).revokeAll ls

/-- A record released (R39). -/
def LoadTable.release (t : LoadTable) (l : Load) : LoadTable := t.put l .idle

/-- A claim or class change taken by the table (R37, R38): a record of another class takes the class and a new claim
sequence, a GRANTED one keeping its grant. -/
def LoadTable.take (t : LoadTable) (l : Load) (c : LoadClass) : LoadTable :=
  match t.claim l with
  | .idle => t.wait l c
  | .waiting c' _ => if c' = c then t else t.wait l c
  | .granted c' _ _ =>
    if c' = c then t
    else
      let t := t.readyClaim
      match t.claim l with
      | .granted _ _ g => { t.put l (.granted c t.claimCounter g) with claimCounter := t.claimCounter + 1 }
      | _ => t

/-! ### The grant walk (R40, R41) -/

/-- The eligible grants for an entry of a class: GRANTED zones of a less urgent class, most recent grant first (R41). -/
def eligible (t : LoadTable) (c : LoadClass) : List Load :=
  let zs := (allZones.map Load.zone).filter fun l =>
    match t.claim l with
    | .granted c' _ _ => c.number < c'.number
    | _ => false
  (sortBy (fun l => ((t.claim l).grant?).getD 0) zs).reverse

/-- The eligible grants taken, most recent first, until the room covers a need; `none` when all together do not. -/
def takeUntil (c : Settings) (need : Nat) : Nat → List Load → Option (List Load)
  | room, [] => if need ≤ room then some [] else none
  | room, l :: ls =>
    if need ≤ room then some [] else (takeUntil c need (room + rating c l) ls).map (l :: ·)

/-- The free room (R34). -/
def freeRoom (c : Settings) (t : LoadTable) : Nat := t.cap - grantedSum c t

/-- What the unit has decided for a record and hands to the record's owner (R42). -/
inductive Award where
  | granted (l : Load)
  | revoked (l : Load)
deriving DecidableEq, Repr

/-- One entry visited (R40 b, c): the grant, with the revocations it needs first, or `none` when it is left WAITING. DESIGN CHOICE
(log 88): several zones revoked for one entry draw their new claim sequences, and are handed to the frost unit, in the order in which
R41 takes them, the most recent grant first; R41 a and R42 give no order for either. -/
def tryGrant (c : Settings) (t : LoadTable) (l : Load) : Option (LoadTable × List Award) :=
  match t.claim l with
  | .waiting k _ =>
    match takeUntil c (rating c l) (freeRoom c t) (eligible t k) with
    | some ls => some ((t.revokeAll ls).grantTo l, ls.map Award.revoked ++ [Award.granted l])
    | none => none
  | _ => none

/-- An entry is held back by the hold class (R40 a). -/
def heldBack (t : LoadTable) (hold : Option LoadClass) (l : Load) : Bool :=
  match hold, (t.claim l).cls? with
  | some h, some k => h.number < k.number
  | _, _ => false

/-- The walk over the entries that stood in the list as it began (R40). -/
def walkOver (c : Settings) : List Load → Option LoadClass → LoadTable → LoadTable × List Award
  | [], _, t => (t, [])
  | l :: ls, hold, t =>
    if heldBack t hold l then walkOver c ls hold t
    else
      match tryGrant c t l with
      | some (t', given) =>
        let r := walkOver c ls hold t'
        (r.1, given ++ r.2)
      | none => walkOver c ls (hold.or (t.claim l).cls?) t

/-- A grant walk (R40), with its revocations and grants in the order in which they are made. -/
def walk (c : Settings) (t : LoadTable) : LoadTable × List Award := walkOver c (waitingList t) none t

/-! ### Changes of the cap (R33, R43) -/

/-- The order of a cap lowering: WARM, FILL, SECURE, FREEZE, and in a class the most recent grant first (R43 b). -/
def revocationKey (t : LoadTable) (l : Load) : Nat :=
  match t.claim l with
  | .granted c _ g => c.number * 4294967296 + g
  | _ => 0

/-- The GRANTED loads in the order a cap lowering takes them. -/
def revocationOrder (t : LoadTable) : List Load :=
  (sortBy (revocationKey t) (allLoads.filter fun l => (t.claim l).isGranted)).reverse

/-- Grants revoked in order until the granted sum is at most the cap (R43 b). -/
def revokeDown (c : Settings) : List Load → LoadTable → LoadTable × List Award
  | [], t => (t, [])
  | l :: ls, t =>
    if grantedSum c t ≤ t.cap then (t, [])
    else
      let r := revokeDown c ls (t.revoke l)
      (r.1, Award.revoked l :: r.2)

/-- The cap the tariff state selects (R33). -/
def selectedCap (c : Settings) (cheap : Bool) : Nat := if cheap then c.capCheap else c.capDear

/-- The cap in force set again (R33, R43), with the revocations that a lowering makes. -/
def LoadTable.setCap (c : Settings) (cheap : Bool) (t : LoadTable) : LoadTable × List Award :=
  let new := selectedCap c cheap
  if new = t.cap then ({ t with capCheap := cheap }, [])
  else revokeDown c (revocationOrder t) { t with cap := new, capCheap := cheap }

/-- What follows a change of the cap in force. DESIGN CHOICE (log 6): the grant walk of R43 first, then the fill unit's
evaluation (R94 g); no rule orders the two. -/
def capSigs (old new : LoadTable) : List Sig := if new.cap = old.cap then [] else [Sig.walk, Sig.planEval]

/-! ### The unit's hand-overs -/

/-- The fill unit is handed a changed freeze sum (R42). DESIGN CHOICE (log 6): after the grant walk of the claim, class change or
release that changes it; R42 gives no order. -/
def freezeSigs (c : Settings) (old new : LoadTable) : List Sig :=
  if freezeSum c old = freezeSum c new then [] else [Sig.planEval]

/-- A claim or class change handed by an owner (R37, R38): the grant walk, then a changed freeze sum (log 6). -/
def handleClaim (l : Load) (k : LoadClass) (e : Env) (P : Plant) : Plant × List Sig :=
  if (P.load.claim l).cls? = some k then (P, [])
  else
    let t := P.load.take l k
    (P.setLoad t, Sig.walk :: freezeSigs e.cfg.set P.load t)

/-- A class change handed by an owner names a record that is not IDLE (R38). -/
def handleClassChange (l : Load) (k : LoadClass) (e : Env) (P : Plant) : Plant × List Sig :=
  if P.load.claim l = .idle then (P, []) else handleClaim l k e P

/-- A release handed by an owner (R39): the grant walk, then a changed freeze sum (log 6). -/
def handleRelease (l : Load) (e : Env) (P : Plant) : Plant × List Sig :=
  if P.load.claim l = .idle then (P, [])
  else
    let t := P.load.release l
    (P.setLoad t, Sig.walk :: freezeSigs e.cfg.set P.load t)

end Sys2Proof.Machine
end

