-- ==== Sys2Proof/Machine/Telemetry.lean ====
section
/-! DEFINITION. The telemetry unit (Part 10): trend points and log, the open batch and LEVEL notices, the notice queue,
the DONE load, and the event counters. -/

namespace Sys2Proof.Machine

/-! ### Values the points and the notices read from their owners -/

/-- A zone's heater command (R138): on exactly while its claim is GRANTED. -/
def heaterOn (P : Plant) (z : Zone) : Bool := (P.load.zones.get z).isGranted

/-- A zone's heater output (R138, R148): driven as the command stands, but not in COMMISSION. -/
def heaterOutput (e : Env) (P : Plant) (z : Zone) : Bool := heaterOn P z && e.sys.mode != .commission

/-- A pump's contactor command (R52): CLOSED exactly in STARTING and RUNNING. -/
def PumpRec.closed (r : PumpRec) : Bool := r.state == .starting || r.state == .running

/-- A pump's contactor output (R52): on as the command stands, but not in COMMISSION, where the output pins stay open. -/
def contactorOutput (e : Env) (r : PumpRec) : Bool := r.closed && e.sys.mode != .commission

/-- The number of pumps in RUNNING. -/
def runningCount (P : Plant) : Nat := (allPumps.filter fun p => (P.pumps.recs.get p).state == .running).length

/-- The number of zone heater outputs that are on: none in COMMISSION (R159). -/
def heatingCount (e : Env) (P : Plant) : Nat := (allZones.filter (heaterOutput e P)).length

/-! ### The notice queue (R165 to R167) -/

/-- A kind that takes a general place (R165). -/
def NoticeKind.general : NoticeKind → Bool
  | .alarm | .done => false
  | _ => true

/-- A kind that is coalesced (R165). -/
def NoticeKind.coalesced : NoticeKind → Bool
  | .level | .done => false
  | _ => true

/-- The general notices waiting. -/
def generalCount (q : List Notice) : Nat := (q.filter fun n => n.kind.general).length

/-- The DONE notices waiting. -/
def doneWaiting (q : List Notice) : Nat := (q.filter fun n => n.kind == .done).length

/-- The oldest LEVEL notice discarded (R166). -/
def dropOldestLevel : List Notice → List Notice
  | [] => []
  | n :: ns => if n.kind = .level then ns else n :: dropOldestLevel ns

/-- Room made for a general notice that would join the tail (R166): with the general places full, the oldest LEVEL
notice waiting is discarded and the gap mark set. -/
def Telem.makeRoom (t : Telem) : Telem :=
  if generalCount t.queue < Config.generalPlaces then t
  else { t with queue := dropOldestLevel t.queue, gap := true }

/-- A notice of a coalesced kind put in place of the waiting one (R165). -/
def replaceNotice (n : Notice) (q : List Notice) : List Notice := q.map fun m => if m.kind = n.kind then n else m

/-- A notice other than LEVEL handed to the queue (R165, R166): in place of a waiting one of its kind where the kind is
coalesced, at the tail otherwise. -/
def Telem.queueNotice (t : Telem) (n : Notice) : Telem :=
  if n.kind.coalesced && t.queue.any fun m => m.kind == n.kind then { t with queue := replaceNotice n t.queue }
  else
    let t := if n.kind.general then t.makeRoom else t
    { t with queue := t.queue ++ [n] }

/-- The kind byte of a notice (section 11.5). -/
def NoticeKind.byte : NoticeKind → Byte
  | .status => 0x60
  | .alarm => 0x61
  | .plan => 0x62
  | .level => 0x63
  | .counter _ => 0x64
  | .done => 0x65

/-- The long operations in flight (R167): on each valve, a commit, a clear. -/
def operationsInFlight (y : Sys) (P : Plant) : Nat :=
  flagBit P.valves.inlet.op.isSome 1 + flagBit P.valves.dump.op.isSome 1 + flagBit y.commit.isSome 1 +
    flagBit P.telem.clear.isSome 1

/-- The DONE load (R167). -/
def doneLoad (y : Sys) (P : Plant) : Nat := doneWaiting P.telem.queue + operationsInFlight y P

/-- The body of a DONE notice (R181, DONE notice body); the valve, its state and its position where there is one. -/
def doneBody (r : DoneResult) (kind : Byte) (v : Option (ValveId × ValveState × Option Nat)) : List Byte :=
  u8 r.code ++ [kind] ++
    (match v with
     | some (id, st, pos) => u8 (valveCode id) ++ u8 st.code ++ u16? pos
     | none => [0xFF, 0xFF, 0xFF, 0xFF]) ++ [0, 0]

/-- A DONE notice queued for an operation that has ended (R167). -/
def Telem.queueDone (t : Telem) (tag : Byte) (body : List Byte) : Telem := t.queueNotice ⟨.done, tag, body⟩

/-! ### Event counters (R169, R170) -/

/-- A tariff qualifier admits a tariff state (R169). -/
def Qualifier.admits : Qualifier → Tariff → Bool
  | .any, _ => true
  | .cheap, t => t == .cheap
  | .dear, t => t == .dear

/-- A counter counts an event (R169). -/
def counts (e : Env) (ev : CounterEvent) (p : Program) (c : Counter) : Bool :=
  p.event == ev && p.qualifier.admits e.clock.tariff && c.started && !c.frozen

/-- A counted amount takes the count across the threshold (R170 a). -/
def crosses (p : Program) (c : Counter) (amount : Nat) : Bool :=
  p.threshold != 0 && c.count < p.threshold && p.threshold ≤ satAdd maxU32 c.count amount && !c.crossed

/-- A counter after a counted amount (R169, R170 a, b). -/
def Counter.add (p : Program) (c : Counter) (amount : Nat) : Counter :=
  let n := satAdd maxU32 c.count amount
  if crosses p c amount then ⟨if p.freeze then p.threshold else n, true, c.started, p.freeze⟩
  else { c with count := n }

/-- The counters that start after counter `j` started (R170 c). -/
def startAfter (ps : PerCounter Program) (j : CounterId) (cs : PerCounter Counter) : PerCounter Counter :=
  allCounters.foldl (fun acc i =>
    if (ps.get i).startAfter = some j then acc.set i { acc.get i with started := true } else acc) cs

/-- The body of a COUNTER notice (R170 a). -/
def counterBody (i : CounterId) (p : Program) (c : Counter) (st : Option Stamp) : List Byte :=
  u8 i.number ++ u8 p.event.code ++ u32 c.count ++ u32 p.threshold ++ stampBytes st

/-- One counter's part of a counter event, judged by the marks `before` it (log 17). -/
def countOne (e : Env) (ev : CounterEvent) (amount : Nat) (before : PerCounter Counter) (t : Telem)
    (i : CounterId) : Telem :=
  let p := e.cfg.programs.get i
  if counts e ev p (before.get i) then
    let c := (t.counters.get i).add p amount
    let t' := { t with counters := t.counters.set i c }
    if crosses p (t.counters.get i) amount then
      { t' with counters := startAfter e.cfg.programs i t'.counters }.queueNotice
        ⟨.counter i, 0, counterBody i p c e.clock.stamp⟩
    else t'
  else t

/-- A counter event handed to the unit with its amount (R169). DESIGN CHOICE (log 17): where it makes several counters cross, their
COUNTER notices join the queue in the order of the counters 1 to 4; R170 gives no order. -/
def Telem.event (t : Telem) (e : Env) (ev : CounterEvent) (amount : Nat) : Telem :=
  allCounters.foldl (countOne e ev amount t.counters) t

/-- A counter event handed to the unit, on the whole plant. -/
def Plant.event (P : Plant) (e : Env) (ev : CounterEvent) (amount : Nat) : Plant :=
  P.setTelem (P.telem.event e ev amount)

/-- The started mark a program or a reset gives (R170 c). -/
def startedAtOnce (cs : PerCounter Counter) (p : Program) : Bool :=
  match p.startAfter with
  | none => true
  | some j => (cs.get j).crossed

/-- A counter programmed or reset (R171): count 0, marks cleared, started as R170 c gives. -/
def Telem.resetCounter (t : Telem) (i : CounterId) (p : Program) : Telem :=
  { t with counters := t.counters.set i ⟨0, false, startedAtOnce t.counters p, false⟩ }

/-! ### Trend points, log and batch (R159 to R164) -/

/-- The bytes of a trend point (R181, Trend point). -/
def TrendPoint.bytes (t : TrendPoint) : List Byte :=
  u32 t.seq ++ stampBytes t.stamp ++ u8 t.quality.code ++ u16 t.level ++ u8 t.guardState.code ++ u8 t.tariff.code ++
    u8 t.running ++ u8 t.heating ++ u16 t.inflow

/-- The reasons for closing a batch (R164), coded as in the LEVEL notice. -/
inductive CloseReason where
  | full | period | deadband
deriving DecidableEq, Repr

/-- The code of a closing reason (R181, LEVEL notice body). -/
def CloseReason.code : CloseReason → Nat | .full => 0 | .period => 1 | .deadband => 2

/-- The body of a LEVEL notice (R181, LEVEL notice body). -/
def levelBody (pts : List TrendPoint) (r : CloseReason) (gap : Bool) : List Byte :=
  u8 pts.length ++ u8 r.code ++ mark gap ++ [0] ++ pts.flatMap TrendPoint.bytes

/-- A batch closed into a LEVEL notice (R164): the reference set to its last point's level, room made, the GAP flag
carried and the mark cleared as the notice joins (R166). -/
def Telem.closeBatch (t : Telem) (r : CloseReason) : Telem :=
  let t := t.makeRoom
  { t with queue := t.queue ++ [⟨.level, 0, levelBody t.batch r t.gap⟩], gap := false,
           reference := (t.batch.getLast?.map (·.level)).or t.reference, batch := [], report := 0 }

/-- A point joins the log, the oldest of 512 leaving (R161). -/
def joinLog (log : List TrendPoint) (p : TrendPoint) : List TrendPoint :=
  if log.length < Config.logPlaces then log ++ [p] else log.drop (log.length + 1 - Config.logPlaces) ++ [p]

/-- The point that the unit would take now (R159). -/
def pointNow (e : Env) (P : Plant) : TrendPoint where
  seq := P.telem.pointCounter
  stamp := e.clock.stamp
  level := e.level.shown
  quality := e.level.quality
  guardState := P.guard.core.state
  tariff := e.clock.tariff
  running := runningCount P
  heating := heatingCount e P
  inflow := P.telem.inflow

/-- The next value of the point counter (R159). -/
def nextPoint (n : Nat) : Nat := if n < maxU32 then n + 1 else 0

/-- A point joins the log and the batch (R159, R161, R163, R164). -/
def Telem.takePoint (t : Telem) (p : TrendPoint) : Telem :=
  { t with pointCounter := nextPoint t.pointCounter, inflow := 0,
           log := if t.clear.isSome then t.log else joinLog t.log p,
           report := if t.batch.isEmpty then 0 else t.report,
           batch := t.batch ++ [p] }

/-- A batch of 12 points closed (R164 a). -/
def Telem.closeIfFull (t : Telem) : Telem :=
  if t.batch.length < Config.batchPlaces then t else t.closeBatch .full

/-- An interval point taken (R160 a). -/
def takeInterval (e : Env) (P : Plant) : Plant :=
  P.setTelem { ((P.telem.takePoint (pointNow e P)).closeIfFull) with interval := 0 }

/-- A deadband point taken, closing the batch with the reason DEADBAND (R160 b, R164 c). -/
def takeDeadband (e : Env) (P : Plant) : Plant :=
  P.setTelem ((P.telem.takePoint (pointNow e P)).closeBatch .deadband)

/-- The difference of two levels, without sign. -/
def apart (a b : Nat) : Nat := if a ≤ b then b - a else a - b

/-- A publication makes a deadband point (R160 b). -/
def deadbandDue (e : Env) (t : Telem) : Bool :=
  match t.reference with
  | some r =>
    e.level.quality == Quality.good && e.cfg.set.deadband != 0 && e.cfg.set.deadband ≤ apart e.level.shown r
  | none => false

/-- A publication handed to the telemetry unit (R160 b). -/
def handleTelemPublication (e : Env) (P : Plant) : Plant × List Sig :=
  (if deadbandDue e P.telem then takeDeadband e P else P, [])

/-! ### Inflow pulses (R168) -/

/-- The unit's own part of an inflow pulse: the litres since the previous point, and the counter event. -/
def countInflow (e : Env) (P : Plant) : Plant :=
  let n := e.cfg.set.litresPerPulse
  (P.setTelem { P.telem with inflow := satAdd maxU16 P.telem.inflow n }).event e .inflowLitres n

/-! ### STATUS notices (R188) -/

/-- The body of a STATUS notice (R181, STATUS notice body). -/
def statusBody (ev : StatusEvent) (e : Env) (P : Plant) : List Byte :=
  u8 e.sys.cause.code ++ u8 e.sys.mode.code ++ u8 e.sys.storeState.code ++ u8 ev.code ++
    u8 P.guard.core.state.code ++ u8 P.guard.core.reason.code ++ u8 e.clock.tariff.code ++ [0]

/-- A STATUS notice queued (R188). -/
def handleStatus (ev : StatusEvent) (e : Env) (P : Plant) : Plant × List Sig :=
  (P.setTelem (P.telem.queueNotice ⟨.status, 0, statusBody ev e P⟩), [])

end Sys2Proof.Machine
end

