-- ==== Sys2Proof/Machine/Alarms.lean ====
section
/-! DEFINITION. The alarm unit (Part 9): the table, appearance and going, new raises, the relay, the ALARM notice. -/

namespace Sys2Proof.Machine

/-- The 24 kinds in id order (R150). -/
def allAlarms : List AlarmKind :=
  [.overflowTrip, .highHigh, .levelSensor, .levelDisagree, .lowReserve, .freeze, .pump1Fault, .pump2Fault,
   .pump3Fault, .inletValveFault, .dumpValveFault, .hostSilent] ++
  [.zone1Sensor, .zone2Sensor, .zone3Sensor, .zone4Sensor, .fillShortfall, .tariffUnknown, .store, .valveSlip,
   .airSensor, .meter, .supplyDip, .high]

/-- The place of a kind in the table, its alarm id less one (R150). -/
def AlarmKind.place : AlarmKind → Nat
  | .overflowTrip => 0 | .highHigh => 1 | .levelSensor => 2 | .levelDisagree => 3 | .lowReserve => 4 | .freeze => 5
  | .pump1Fault => 6 | .pump2Fault => 7 | .pump3Fault => 8 | .inletValveFault => 9 | .dumpValveFault => 10
  | .hostSilent => 11 | .zone1Sensor => 12 | .zone2Sensor => 13 | .zone3Sensor => 14 | .zone4Sensor => 15
  | .fillShortfall => 16 | .tariffUnknown => 17 | .store => 18 | .valveSlip => 19 | .airSensor => 20 | .meter => 21
  | .supplyDip => 22 | .high => 23

/-- The alarm id of a kind (R150). -/
def AlarmKind.id (k : AlarmKind) : Nat := k.place + 1

/-- The kind of an alarm id. -/
def alarmOfId (n : Nat) : Option AlarmKind := match n with | 0 => none | k + 1 => allAlarms[k]?

/-- The fixed priority of a kind (R150). -/
def AlarmKind.priority : AlarmKind → Nat
  | .overflowTrip => 1
  | .highHigh | .levelSensor => 2
  | .levelDisagree | .lowReserve | .freeze => 3
  | .pump1Fault | .pump2Fault | .pump3Fault | .inletValveFault | .dumpValveFault | .hostSilent => 4
  | .zone1Sensor | .zone2Sensor | .zone3Sensor | .zone4Sensor | .fillShortfall | .tariffUnknown | .store => 5
  | .valveSlip | .airSensor | .meter => 6
  | .supplyDip | .high => 7

/-- The fault condition of a pump (R67 e). -/
def pumpFault : Pump → AlarmKind
  | .p1 => .pump1Fault
  | .p2 => .pump2Fault
  | .p3 => .pump3Fault

/-- The sensor condition of a zone (R134). -/
def zoneSensor : Zone → AlarmKind
  | .z1 => .zone1Sensor
  | .z2 => .zone2Sensor
  | .z3 => .zone3Sensor
  | .z4 => .zone4Sensor

/-- The fault condition of a valve (R79). -/
def valveFault : ValveId → AlarmKind
  | .inlet => .inletValveFault
  | .dump => .dumpValveFault

/-- The record of a kind. -/
def Alarms.get (a : Alarms) (k : AlarmKind) : AlarmRec := a.table.getD k.place .reset

/-- The record of a kind replaced. -/
def Alarms.put (a : Alarms) (k : AlarmKind) (r : AlarmRec) : Alarms := { a with table := a.table.set k.place r }

/-- The condition of a record in a state (R150). -/
def AlarmState.present : AlarmState → Bool
  | .active | .acked => true
  | .quiet | .latched => false

/-- A record is standing (R150). -/
def AlarmState.standing : AlarmState → Bool
  | .active | .latched => true
  | .quiet | .acked => false

/-- The state after an appearance (R151 a, R152). -/
def AlarmState.appeared : AlarmState → AlarmState
  | .quiet | .latched => .active
  | s => s

/-- The state after a going (R151 b, R152). -/
def AlarmState.gone : AlarmState → AlarmState
  | .active => .latched
  | .acked => .quiet
  | s => s

/-- The state after an acknowledgement (R152). -/
def AlarmState.acknowledged : AlarmState → AlarmState
  | .active => .acked
  | .latched => .quiet
  | s => s

/-- The standing record of most urgent priority and, in it, of earliest raise sequence (R153). -/
def topAlarm (a : Alarms) : Option AlarmKind :=
  (sortBy (fun k => k.priority * 4294967296 + (a.get k).raiseSeq.getD 0)
    (allAlarms.filter fun k => (a.get k).state.standing)).head?

/-- The number of records in a state. -/
def alarmCount (a : Alarms) (s : AlarmState) : Nat := (allAlarms.filter fun k => (a.get k).state == s).length

/-- The alarm relay (R156): energized while a standing record has a priority at or below the threshold. -/
def relayOn (c : Settings) (a : Alarms) : Bool :=
  allAlarms.any fun k => (a.get k).state.standing && k.priority ≤ c.relayThreshold

/-! ### Raises (R152) -/

/-- The raise sequences held in the table. -/
def raiseSeqs (a : Alarms) : List Nat := a.table.filterMap (·.raiseSeq)

/-- The raise sequences renumbered 1, 2, 3 and onward in their order, the counter continuing (R152). -/
def Alarms.renumber (a : Alarms) : Alarms :=
  let ns := raiseSeqs a
  { a with table := a.table.map fun r => { r with raiseSeq := r.raiseSeq.map (rankAmong ns) },
           raiseCounter := ns.length + 1 }

/-- The table ready for a draw from the raise counter (R152). -/
def Alarms.readyRaise (a : Alarms) : Alarms := if a.raiseCounter < maxU32 then a else a.renumber

/-- A new raise (R152): a raise sequence drawn, the stamp set, the raise count risen. -/
def Alarms.raise (a : Alarms) (k : AlarmKind) (st : Option Stamp) : Alarms :=
  let a := a.readyRaise
  let r := a.get k
  { a.put k ⟨.active, some a.raiseCounter, some st, satAdd 255 r.raises 1⟩ with raiseCounter := a.raiseCounter + 1 }

/-- The alarm change count after one change (R157). -/
def nextChange (n : Nat) : Nat := if n < maxU16 then n + 1 else 0

/-- The body of the ALARM notice after a change of `k` from `old` to `new` (R157). DESIGN CHOICE (log 72): the top record is named by its
alarm id without its kind, then its state and priority; where none stands the three are 0xFF. -/
def alarmBody (c : Settings) (a : Alarms) (k : AlarmKind) (old new : AlarmState) : List Byte :=
  u32 a.changes ++ u8 k.id ++ u8 k.place ++ u8 old.code ++ u8 new.code ++ u8 (if new.present then 0 else 1) ++
    (match topAlarm a with
     | some t => u8 t.id ++ u8 (a.get t).state.code ++ u8 t.priority
     | none => [0xFF, 0xFF, 0xFF]) ++
    u32 (alarmCount a .active) ++ u32 (alarmCount a .latched) ++ u32 (alarmCount a .acked) ++ mark (relayOn c a)

/-- A change of a record's state carried out (R152, R157): the raise where it leaves QUIET, the change count, the
ALARM_RAISES event, the ALARM notice. -/
def changeAlarm (e : Env) (P : Plant) (k : AlarmKind) (new : AlarmState) : Plant :=
  let old := (P.alarms.get k).state
  let raised := old = .quiet && new = .active
  let a := if raised then P.alarms.raise k e.clock.stamp
           else P.alarms.put k { P.alarms.get k with state := new }
  let a := { a with changes := nextChange a.changes }
  let P := P.setAlarms a
  let P := if raised then P.event e .alarmRaises 1 else P
  P.setTelem (P.telem.queueNotice ⟨.alarm, 0, alarmBody e.cfg.set a k old new⟩)

/-- An appearance or a going handed to the alarm unit (R151). -/
def handleCond (k : AlarmKind) (present : Bool) (e : Env) (P : Plant) : Plant × List Sig :=
  let old := (P.alarms.get k).state
  let new := if present then old.appeared else old.gone
  (if new = old then P else changeAlarm e P k new, [])

end Sys2Proof.Machine
end

