-- ==== Sys2Proof/Machine/Valves.lean ====
section
/-! DEFINITION. The valve unit (Part 5): motion and the end-stop, homing, ranks and holds, the station computer's
operations and their DONE notices, and the simulated stems of COMMISSION. -/

namespace Sys2Proof.Machine

/-! ### The end-stop -/

/-- The simulated end-stop (R90): CLOSED while the stem is at 0 or below. -/
def Valve.simStop (r : Valve) : Contact := if r.stem ≤ 0 then .closed else .opened

/-- The end-stop as last read: simulated in COMMISSION, the real one otherwise (R90). A motion that begins takes it until its
own first reading (log 10). -/
def Valve.stop (e : Env) (r : Valve) : Contact := if e.sys.mode = .commission then r.simStop else r.endStop

/-- A valve gives steps (R74): MOVING or HOMING. -/
def Valve.inMotion (r : Valve) : Bool := r.state == .moving || r.state == .homing

/-- A valve is in FAULT for the tests of FAULT (R80): in the state, or homing from it. -/
def Valve.inFault (r : Valve) : Bool := r.state == .fault || r.fromFault

/-! ### Motion (R76 to R80) -/

/-- A valve at rest at a position, its motion ended (R76). -/
def Valve.rest (r : Valve) (p : Nat) : Valve :=
  { r with state := .idle, position := some p, target := some p, fromFault := false, unread := false, phase := none,
           seat := none, stuck := none }

/-- A move from position `p` toward `t` (R76, R78): at once at rest where they are equal, with the stuck-switch test where
it opens from a CLOSED end-stop. -/
def Valve.aim (stop : Contact) (r : Valve) (p t : Nat) : Valve :=
  if t = p then r.rest p
  else { r with state := .moving, position := some p, target := some t, fromFault := false, phase := none, seat := none,
                stuck := if p < t && stop == .closed then some 0 else none }

/-- A move begun from rest at position `p` toward `t` (R76): its end-stop is read again before its first step. -/
def Valve.setOut (stop : Contact) (r : Valve) (p t : Nat) : Valve :=
  if t = p then r.rest p else { r.aim stop p t with unread := true }

/-- A new target given to a MOVING valve (R76): one equal to its position ends the motion at once, also in a seat search; in
the same direction the motion goes on, its stuck-switch test with it (log 19); otherwise it turns. -/
def Valve.retarget (stop : Contact) (r : Valve) (p t : Nat) : Valve :=
  if t ≠ p && r.seat.isNone && (r.target.any (fun g => p < g && p < t || g < p && t < p)) then { r with target := some t }
  else r.aim stop p t

/-- The phase with which a homing begins (R79): a back-off from a CLOSED end-stop, the seek from an OPEN one. -/
def Phase.first (stop : Contact) : Phase := if stop = .closed then .backOff 0 else .seek 0

/-- A homing begun, or taken over with its phase and step count when one is under way (R79, R81 c, R85), to be followed
by a move to `next` where there is one. -/
def Valve.home (stop : Contact) (r : Valve) (next : Option Nat) : Valve :=
  if r.state = .homing then { r with target := next }
  else
    { r with state := .homing, position := none, target := next, fromFault := r.state == .fault, unread := true,
             phase := some (.first stop), seat := none, stuck := none }

/-- A valve driven to a target (R81 c, R82 d): moved from a known position, homed first from an unknown one. -/
def Valve.drive (stop : Contact) (r : Valve) (t : Nat) : Valve :=
  match r.position with
  | some p => if r.state = .moving then r.retarget stop p t else r.setOut stop p t
  | none => r.home stop (if t = 0 then none else some t)

/-- The record on entry into FAULT (R80 a, d, e). -/
def Valve.failed (r : Valve) : Valve :=
  { r with state := .fault, position := none, target := none, fromFault := false, unread := false, phase := none,
           seat := none, stuck := none, waiting := none, owner := if r.owner = .pumps then .none else r.owner }

/-- A homing that succeeds (R79): position 0, then the move it was asked with, from a CLOSED end-stop. -/
def Valve.homed (r : Valve) : Valve := r.aim .closed 0 (r.target.getD 0)

/-- The step about to be given opens the valve. -/
def Valve.opens (r : Valve) : Bool :=
  match r.state with
  | .moving =>
    match r.position, r.target with
    | some p, some t => p < t
    | _, _ => false
  | .homing => match r.phase with | some (.backOff _) => true | _ => false
  | _ => false

/-- The end-stop read before the first step of a motion, `k` its reading (R76): it decides whether a stuck switch is tested
(R78) and which phase a homing begins with (R79). -/
def Valve.firstRead (k : Contact) (r : Valve) : Valve :=
  if r.unread then
    match r.state with
    | .moving => { r with unread := false, stuck := if r.opens && k == .closed then some 0 else none }
    | .homing => { r with unread := false, phase := some (.first k) }
    | _ => { r with unread := false }
  else r

/-- The step output (R76, R79, R89, R90): driven in SETUP and RUN while the valve is MOVING or HOMING, one pulse for each VALVE_STEP;
never in COMMISSION, where the motions are formed and the real valve stands still. -/
def Valve.stepOutput (e : Env) (r : Valve) : Bool := r.inMotion && e.sys.mode != .commission

/-- The direction output (R76, R79, R89, R90): where the step output is driven, whether its next pulse opens the valve; none where it
is not. The pulse of a motion's first step takes it from the record as `Valve.firstRead` leaves it (log 10). -/
def Valve.directionOutput (e : Env) (r : Valve) : Option Bool := if r.stepOutput e then some r.opens else none

/-- The stem after the step about to be given (R90): it follows the steps and is not held at 0. -/
def Valve.stemAfter (r : Valve) : Int := if r.opens then r.stem + 1 else r.stem - 1

/-- One opening step of a move from `p` to `t`, the end-stop reading `k` after it (R76, R78). DESIGN CHOICE (log 87): a CLOSED reading
after the 30th step brings FAULT (R78) also where that step is the last of the move, which R76 would end IDLE at the target; no rule
orders the two. -/
def Valve.openStep (r : Valve) (p t : Nat) (k : Contact) : Valve :=
  let r := { r with position := some (p + 1) }
  match r.stuck with
  | some n =>
    if k = .closed && Config.stuckSteps ≤ n + 1 then r.failed
    else if p + 1 = t then r.rest t
    else { r with stuck := if k = .closed then some (n + 1) else none }
  | none => if p + 1 = t then r.rest t else r

/-- One closing step of a move from `p` to `t`, the end-stop reading `k` after it (R76, R77 a to c), which acts also after the last
step of the move (log 87). -/
def Valve.closeStep (r : Valve) (p t : Nat) (k : Contact) : Valve :=
  if k = .closed then r.aim .closed 0 t
  else if p - 1 = 0 then { r with position := some 0, seat := some 0 }
  else if p - 1 = t then r.rest t
  else { r with position := some (p - 1) }

/-- One step of a seat search after `n` (R77 c). -/
def Valve.seatStep (r : Valve) (n t : Nat) (k : Contact) : Valve :=
  if k = .closed then r.aim .closed 0 t
  else if Config.seatSearchSteps ≤ n + 1 then r.failed
  else { r with seat := some (n + 1) }

/-- One step of a homing (R79 a, b). -/
def Valve.homingStep (r : Valve) (k : Contact) : Valve :=
  match r.phase with
  | some (.backOff n) =>
    if k = .opened then { r with phase := some (.seek 0) }
    else if Config.backOffSteps ≤ n + 1 then r.failed
    else { r with phase := some (.backOff (n + 1)) }
  | some (.seek n) =>
    if k = .closed then r.homed
    else if Config.seekSteps ≤ n + 1 then r.failed
    else { r with phase := some (.seek (n + 1)) }
  | none => r

/-- One step of the valve once its end-stop has been read before it, the end-stop reading `k` after it. -/
def Valve.step (r : Valve) (k : Contact) : Valve :=
  match r.state with
  | .moving =>
    match r.position, r.target with
    | some p, some t =>
      match r.seat with
      | some n => r.seatStep n t k
      | none => if p < t then r.openStep p t k else if t < p then r.closeStep p t k else r.rest p
    | _, _ => r
  | .homing => r.homingStep k
  | _ => r

/-- A step of a closing move finds a slip (R77 b). -/
def Valve.slips (r : Valve) (k : Contact) : Bool :=
  match r.state, r.position, r.target, r.seat with
  | .moving, some p, some t, none => t < p && k == .closed && Config.seatPosition < p - 1
  | _, _, _, _ => false

/-- A step that raises the position from 0 to 1 (R88 d). -/
def Valve.rises (r : Valve) : Bool :=
  match r.state, r.position, r.target, r.seat with
  | .moving, some 0, some t, none => 0 < t
  | _, _, _, _ => false

/-! ### What the unit hands on (R88) -/

/-- The fault condition's going is not handed while the real valve was saved in FAULT on entry into COMMISSION
(R90 b). -/
def Valve.savedFault (r : Valve) : Bool :=
  match r.saved with
  | some (.fault, _) => true
  | _ => false

/-- A change of a valve's record enters FAULT: also where a homing from FAULT fails again (R80). -/
def entersFault (r r' : Valve) : Bool := r'.state == .fault && r.state != .fault

/-- A change of a valve's record leaves FAULT (R80). -/
def leavesFault (r r' : Valve) : Bool := r.inFault && !r'.inFault

/-- The hand-overs of a change of a valve's record from `r` to `r'` (R80, R88): the pump unit's watch of the inlet
(R65), the fault condition, the fill unit's evaluation at each entry into FAULT and exit from it (R94 h), the pumps' asking again
(R59), the start check that follows the inlet coming to rest (R60). DESIGN CHOICE (log 56): in this order; R80 and R88 give none. -/
def valveSigs (v : ValveId) (r r' : Valve) : List Sig :=
  (if v = .inlet then [Sig.inletMoved] else []) ++
  (if entersFault r r' then [Sig.cond (valveFault v) true] else []) ++
  (if leavesFault r r' && !r'.savedFault then [Sig.cond (valveFault v) false] else []) ++
  (if v = .inlet && (entersFault r r' || leavesFault r r') then [Sig.planEval] else []) ++
  (if v = ValveId.inlet && (leavesFault r r' ||
      (r.state == .homing && r'.state == .idle && r'.owner == Owner.pumps)) then [Sig.inletAskAgain] else []) ++
  (if v = .inlet && r'.state = .idle && r.state ≠ .idle then [Sig.startCheck] else [])

/-! ### Operations of the station computer (R84) -/

/-- An operation in flight on a valve ended with a DONE notice; the owner HOST becomes NONE (R84). -/
def finishOp (res : DoneResult) (v : ValveId) (P : Plant) : Plant :=
  let r := P.valves.get v
  match r.op with
  | some op =>
    let P := P.setTelem (P.telem.queueDone op.tag (doneBody res op.kind (some (v, r.state, r.position))))
    P.setValve v { r with op := none, owner := if r.owner = .host then .none else r.owner }
  | none => P

/-- The end of an operation that a motion's end brings (R84): COMPLETE at rest, FAULT in FAULT. -/
def endOpAtRest (v : ValveId) (P : Plant) : Plant :=
  match (P.valves.get v).state with
  | .idle => finishOp .complete v P
  | .fault => finishOp .fault v P
  | _ => P

/-- A valve's record replaced by one that a request has given a motion, with the end of an operation it brings and all
that the change hands on. -/
def applyValve (v : ValveId) (r' : Valve) (P : Plant) : Plant × List Sig :=
  (endOpAtRest v (P.setValve v r'), valveSigs v (P.valves.get v) r')

/-! ### Steps (R76 to R79, R88) -/

/-- A valve MOVING or HOMING about to take the step that is given: the end-stop read before a motion's first step, then, where the step
output is driven, the real end-stop read after it, and in COMMISSION, where it is not, the stem moved (R76, R89, R90 b). -/
def Valve.stepped (e : Env) (k : EndStop) (r : Valve) : Valve :=
  if r.stepOutput e then { r.firstRead k.before with endStop := k.after }
  else
    let r := r.firstRead r.simStop
    { r with stem := r.stemAfter }

/-- One step of a valve with the readings `k` of its end-stop around it; in COMMISSION the stem and its simulated end-stop
stand for both readings (R90 b). A valve that is not MOVING or HOMING gives no step (R74). DESIGN CHOICE (log 56): the DONE notice
of an operation that ends comes first, then DUMP_OPENS, then VALVE_SLIP, then the hand-overs of `valveSigs`. -/
def stepValve (v : ValveId) (k : EndStop) (e : Env) (P : Plant) : Plant × List Sig :=
  let r := P.valves.get v
  if r.inMotion then
    let r1 := r.stepped e k
    let r2 := r1.step (r1.stop e)
    let P := endOpAtRest v (P.setValve v r2)
    let P := if v = .dump && r1.rises then P.event e .dumpOpens 1 else P
    (P, (if r1.slips (r1.stop e) then [Sig.cond .valveSlip true, Sig.cond .valveSlip false] else []) ++ valveSigs v r r2)
  else (P, [])

/-! ### Ranks (R81 to R83) -/

/-- The request that the pumps' present motion or hold stands for (R81 b). -/
def pumpsRequestOf (r : Valve) : PumpsRequest := if r.state = .homing && r.target.isNone then .homing else .pFill

/-- A request of the guard (R81). -/
def handleGuardAsk (v : ValveId) (t : Nat) (e : Env) (P : Plant) : Plant × List Sig :=
  let P := finishOp .preempted v P
  let r : Valve := P.valves.get v
  let r : Valve := { r with waiting := if r.owner = Owner.pumps then some (pumpsRequestOf r) else r.waiting, owner := .guard }
  applyValve v (r.drive (r.stop e) t) P

/-- A request of the pumps taken with the owner NONE or PUMPS (R82 d). -/
def takePumpsRequest (q : PumpsRequest) (e : Env) (P : Plant) : Plant × List Sig :=
  let r : Valve := { P.valves.inlet with owner := .pumps, waiting := none }
  match q with
  | .homing => applyValve .inlet (r.home (r.stop e) none) P
  | .pFill => applyValve .inlet (r.drive (r.stop e) e.cfg.set.pFill) P

/-- A request of the pumps (R82): a faulted inlet takes none and keeps none (log 20), the guard's hold keeps it
waiting. -/
def handlePumpsAsk (q : PumpsRequest) (e : Env) (P : Plant) : Plant × List Sig :=
  let r := P.valves.inlet
  if r.inFault then (P, [])
  else if r.owner = .guard then (P.setValve .inlet { r with waiting := some q }, [])
  else takePumpsRequest q e (finishOp .preempted .inlet P)

/-- A release by the guard (R83 a). -/
def handleGuardRelease (v : ValveId) (e : Env) (P : Plant) : Plant × List Sig :=
  let r := P.valves.get v
  if r.owner = .guard then
    let P := P.setValve v { r with owner := .none, waiting := none }
    match r.waiting with
    | some q => if v = .inlet then takePumpsRequest q e P else (P, [])
    | none => (P, [])
  else (P, [])

/-- A release by the pumps (R83 b). -/
def handlePumpsRelease (P : Plant) : Plant × List Sig :=
  let r := P.valves.inlet
  (P.setValve .inlet { r with owner := if r.owner = .pumps then .none else r.owner, waiting := none }, [])

/-! ### COMMISSION (R90) and restarts (R91) -/

/-- A motion halted on entry into COMMISSION (R90 a). -/
def Valve.halted (r : Valve) : Valve :=
  match r.state with
  | .moving =>
    match r.position, r.seat with
    | some p, none => r.rest p
    | _, _ => { r with state := .unhomed, position := none, target := none, unread := false, seat := none, stuck := none }
  | .homing =>
    { r with state := if r.fromFault then .fault else .unhomed, position := none, target := none, fromFault := false,
             unread := false, phase := none }
  | _ => r

/-- The record saved and the simulated stem set (R90 a). -/
def Valve.enterCommission (r : Valve) : Valve :=
  { r with saved := some (r.state, r.position),
           stem := match r.position with | some p => p | none => Config.unknownStem }

/-- The record brought back to what was saved (R90 c). -/
def Valve.leaveCommission (r : Valve) : Valve :=
  match r.saved with
  | some (st, pos) =>
    { r with state := st, position := pos, target := pos, fromFault := false, unread := false, phase := none,
             seat := none, stuck := none, saved := none }
  | none => r

/-- The standing of a valve that a warm restart keeps (R91): from the saved record when COMMISSION is left by it
(log 21). -/
def Valve.warm (r : Valve) : Valve :=
  let r := match r.saved with | some _ => r.leaveCommission | none => r.halted
  let counted := if r.state = .idle then r.position else none
  { Valve.reset with state := r.state, position := counted, target := counted, endStop := r.endStop }

/-- A valve after a full restart (R91). -/
def Valve.cold (r : Valve) : Valve := { Valve.reset with endStop := r.endStop }

end Sys2Proof.Machine
end

