-- ==== Sys2Proof/Machine/Pumps.lean ====
section
/-! DEFINITION. The pump unit (Part 4): the duty list, call evaluation, the inlet request, starting, stopping, resting,
faults, and the stagnation timer. -/

namespace Sys2Proof.Machine

/-! ### Reading the table -/

/-- A pump is fitted (R51). -/
def fitted (c : Settings) (p : Pump) : Bool := pumpNumber p ≤ c.pumpsFitted

/-- The fitted pumps in order. -/
def fittedPumps (c : Settings) : List Pump := allPumps.filter (fitted c)

/-- A served set is not empty. -/
def Served.any (s : Served) : Bool := s.fill || s.boost || s.reserve || s.circ

/-- A pump is called (R51). -/
def PumpRec.called (r : PumpRec) : Bool := r.served.any

/-- The class of a call (R58). -/
def Served.cls (s : Served) : LoadClass := if s.reserve || s.circ then .secure else .fill

/-- The call class, absent while the pump is not called (R51, R58). -/
def PumpRec.callClass (r : PumpRec) : Option LoadClass := if r.called then some r.served.cls else none

/-- One or none, as a number of pumps. -/
def asCount (b : Bool) : Nat := if b then 1 else 0

/-- The number called, n (R56). -/
def numberCalled (e : Env) (u : Pumps) : Nat :=
  if e.sys.mode = .setup then 0
  else
    let n := min (max (max u.fillK u.boostK) (max (asCount u.reserve) (asCount u.circ))) u.duty.length
    match u.limit with
    | .none => n
    | .one => min 1 n
    | .zero => 0

/-- The demands that reach a place of the duty list, counted from 1 (R57). -/
def servedAt (u : Pumps) (place : Nat) : Served :=
  ⟨place ≤ u.fillK, place ≤ u.boostK, u.reserve && place == 1, u.circ && place == 1⟩

/-- The run feedback as the unit reads it (R51, R72 c). -/
def feedbackOf (e : Env) (P : Plant) (p : Pump) : Presence :=
  if e.sys.mode = .commission then (P.pumps.recs.get p).simFeedback else e.pins.feedback.get p

/-- A pump is RUNNING. -/
def anyRunning (P : Plant) : Bool := allPumps.any fun p => (P.pumps.recs.get p).state == .running

/-- The inlet stands open for the pumps: a known position and a target of at least P_open (R60, R65). -/
def inletOpen (c : Settings) (r : Valve) : Bool :=
  r.position.any (c.pOpen ≤ ·) && r.target.any (c.pOpen ≤ ·)

/-! ### Changes of one pump -/

/-- A pump in OFF, CALLED or RESTING, where R66 c tests its feedback. -/
def PumpState.opensContactor : PumpState → Bool
  | .off | .called | .resting => true
  | _ => false

/-- A pump's record in another state, its contactor open (R62, R67, R70): state timer 0, no run. The time for which its feedback has
stood PRESENT without a command goes on through OFF, CALLED and RESTING (R66 c). DESIGN CHOICE (log 73): a pump that becomes unfitted
keeps its window mark until the next window start. -/
def PumpRec.opened (r : PumpRec) (st : PumpState) (sv : Served) : PumpRec :=
  { r with state := st, served := sv, timer := 0, run := none, simSecs := if r.closed then 0 else r.simSecs,
           feedbackSecs := if r.state.opensContactor && st.opensContactor then r.feedbackSecs else 0 }

/-- The run seconds that an opening hands (R51, R62). -/
def PumpRec.runSecs (r : PumpRec) : Nat := match r.run with | some x => x.secs | none => 0

/-- A pump leaves its state for one with the contactor open: run seconds handed where it was closed (R62), the stagnation
timer started where it was RUNNING (R68). DESIGN CHOICE (log 85): the run seconds are counted before anything else is handed on. -/
def openPump (e : Env) (p : Pump) (st : PumpState) (sv : Served) (P : Plant) : Plant :=
  let r := P.pumps.recs.get p
  let P1 := P.setPump p (r.opened st sv)
  let P2 := if r.closed then P1.event e .pumpRunSeconds r.runSecs else P1
  if r.state = .running then P2.setPumps { P2.pumps with stagnation := 0, stagnationSecs := 0 } else P2

/-- What the leaving of a state hands on: the change to the guard (R52), an exit from RUNNING of a pump serving
circulation to the frost unit (R68), a start check after STARTING (R60). DESIGN CHOICE (log 61): in this order, after the claim's
release; R52, R60, R61 and R68 give none. -/
def leaveSigs (r : PumpRec) : List Sig :=
  [Sig.pumpState] ++ (if r.state = .running && r.served.circ then [Sig.circExit] else []) ++
    (if r.state = .starting then [Sig.startCheck] else [])

/-- A pump stopped or uncalled with its claim released (R57 a, R62, R65). DESIGN CHOICE (log 61): the release, with its grant walk,
comes before what the change of state hands on. -/
def stopPump (e : Env) (p : Pump) (st : PumpState) (sv : Served) (P : Plant) : Plant × List Sig :=
  (openPump e p st sv P, Sig.release (.pump p) :: leaveSigs (P.pumps.recs.get p))

/-- A pump taken from the duty list; a pending rotation is dropped when it was the lead pump (R54, R55). -/
def Pumps.leaveDuty (u : Pumps) (p : Pump) : Pumps :=
  { u with duty := u.duty.filter (· ≠ p), rotationPending := u.rotationPending && u.duty.head? != some p }

/-- A pump put at the tail of the duty list (R54 b, c). -/
def Pumps.joinDuty (u : Pumps) (p : Pump) : Pumps := { u with duty := u.duty.filter (· ≠ p) ++ [p] }

/-- A pump taken out of automatic use: stopped, its claim released, off the duty list (R67, R70 c, R72 a). DESIGN CHOICE (logs 78
and 83): the duty list is handed on last, also where the pump was not on it. -/
def retirePump (e : Env) (p : Pump) (st : PumpState) (P : Plant) : Plant × List Sig :=
  let r := stopPump e p st Served.empty P
  (r.1.setPumps (r.1.pumps.leaveDuty p), r.2 ++ [Sig.dutyChanged])

/-- A pump locked out (R66, R67). DESIGN CHOICE (log 83): the appearance of its fault is handed after the change of the duty list,
as R67 a to e name them. -/
def lockOut (e : Env) (p : Pump) (P : Plant) : Plant × List Sig :=
  let r := retirePump e p .lockout P
  (r.1, r.2 ++ [Sig.cond (pumpFault p) true])

/-- A pump that joins the duty list at its tail, RESTING and not called (R71 a, R72 a); the time of R66 c begins here. -/
def enlistPump (p : Pump) (P : Plant) : Plant × List Sig :=
  let r := P.pumps.recs.get p
  let P := P.setPump p { r.opened .resting .empty with feedbackSecs := 0 }
  (P.setPumps (P.pumps.joinDuty p), [Sig.pumpState, Sig.dutyChanged])

/-! ### Call evaluation (R57) -/

/-- A call evaluation, its parts in the order of R57 a to d, a pending rotation taken after the uncalls (R55 c). -/
def handleCallEval (P : Plant) : Plant × List Sig :=
  (P, [.callUncalls, .rotationCheck, .callServe, .callCalls, .inletRequest, .startCheck])

/-- The called pump at the highest place above n (R57 a). -/
def nextUncall (e : Env) (u : Pumps) : Option Pump :=
  ((u.duty.drop (numberCalled e u)).filter fun p => (u.recs.get p).called).getLast?

/-- The uncalls (R57 a), one after another from the highest place downward. -/
def handleUncalls (e : Env) (P : Plant) : Plant × List Sig :=
  match nextUncall e P.pumps with
  | none => (P, [])
  | some p =>
    let r := P.pumps.recs.get p
    match r.state with
    | .starting | .running =>
      let x := stopPump e p .resting .empty P
      (x.1, x.2 ++ [.callUncalls])
    | .called =>
      let x := stopPump e p .off .empty P
      (x.1, x.2 ++ [.callUncalls])
    | _ => (P.setPump p { r with served := .empty }, [.release (.pump p), .callUncalls])

/-- A pending rotation taken once the lead pump is not called (R55 c). DESIGN CHOICE (log 78): that of a list of one pump is handed
on as a change too. -/
def handleRotationCheck (P : Plant) : Plant × List Sig :=
  match P.pumps.rotationPending, P.pumps.duty with
  | true, p :: rest =>
    if (P.pumps.recs.get p).called then (P, [])
    else (P.setPumps { P.pumps with duty := rest ++ [p], rotationPending := false }, [.dutyChanged])
  | _, _ => (P, [])

/-- The demands served taken by the pump at one place, with the class change of a claim it holds (R57 b, R58). -/
def servePlace (P : Plant) (place : Nat) (p : Pump) : Plant × List Sig :=
  let sv := servedAt P.pumps place
  let sigs :=
    match (P.load.pumps.get p).cls? with
    | some k => if k = sv.cls then [] else [Sig.classChange (.pump p) sv.cls]
    | none => []
  (P.setPump p { P.pumps.recs.get p with served := sv }, sigs)

/-- The demands served taken by each pump of a list, the first at `place`. DESIGN CHOICE (log 84): every pump takes its demands
before any class change is handed on, and these are handed lowest place first. -/
def servePlaces (P : Plant) (place : Nat) : List Pump → Plant × List Sig
  | [] => (P, [])
  | p :: ps =>
    let x := servePlace P place p
    let y := servePlaces x.1 (place + 1) ps
    (y.1, x.2 ++ y.2)

/-- The demands served (R57 b). -/
def handleServe (e : Env) (P : Plant) : Plant × List Sig :=
  servePlaces P 1 (P.pumps.duty.take (numberCalled e P.pumps))

/-- The calls (R57 c), one after another from the lowest place upward: an OFF pump becomes CALLED with its claim. DESIGN CHOICE
(log 61): the claim is handed before the change of state. -/
def handleCalls (e : Env) (P : Plant) : Plant × List Sig :=
  match (P.pumps.duty.take (numberCalled e P.pumps)).find? fun p => (P.pumps.recs.get p).state == .off with
  | none => (P, [])
  | some p =>
    let r := P.pumps.recs.get p
    (P.setPump p { r with state := .called, timer := 0 },
     [.claim (.pump p) r.served.cls, .pumpState, .callCalls])

/-! ### The inlet request and starting (R59 to R61, R65) -/

/-- The request that an inlet asks for (R59): a homing while it is UNHOMED, the opening otherwise. -/
def inletAsk (P : Plant) : PumpsRequest := if P.valves.inlet.state = .unhomed then .homing else .pFill

/-- At least one pump is called, in any state: the inlet request stands then (R59). -/
def inletWanted (u : Pumps) : Bool := allPumps.any fun p => (u.recs.get p).called

/-- The inlet request formed again (R59). -/
def handleInletRequest (P : Plant) : Plant × List Sig :=
  let want := inletWanted P.pumps
  if want = P.pumps.inletRequest then (P, [])
  else
    (P.setPumps { P.pumps with inletRequest := want },
     [if want then Sig.pumpsAsk (inletAsk P) else Sig.pumpsRelease])

/-- The inlet asked for again while the request stands (R59, R82). -/
def handleAskAgain (P : Plant) : Plant × List Sig :=
  (P, if P.pumps.inletRequest then [Sig.pumpsAsk (inletAsk P)] else [])

/-- A pump meets R60 a and is CALLED. -/
def readyToStart (P : Plant) (p : Pump) : Bool :=
  (P.pumps.recs.get p).state == .called && (P.load.pumps.get p).isGranted

/-- The calls stand as R57 leaves them before its start check: no pump above n is called, none among the first n is left OFF
(a to c), and the inlet request stands exactly while a pump is called (d, R59). -/
def callsInLine (e : Env) (u : Pumps) : Bool :=
  (nextUncall e u).isNone && !((u.duty.take (numberCalled e u)).any fun p => (u.recs.get p).state == .off) &&
    u.inletRequest == inletWanted u

/-- The conditions of R60 b to d, and the order of R57. DEDUCED (log 61): R57 puts its own start check after the uncalls, the calls
and the inlet request, so a start check that a grant or the leaving of STARTING brings inside them starts no pump; R60 says
nothing of such a check. -/
def startAllowed (e : Env) (P : Plant) : Bool :=
  callsInLine e P.pumps && P.valves.inlet.state == .idle && inletOpen e.cfg.set P.valves.inlet &&
    e.cfg.set.startSpacing ≤ P.pumps.spacing && !(allPumps.any fun p => (P.pumps.recs.get p).state == .starting)

/-- The record of a pump on entry into STARTING (R60). -/
def PumpRec.start (r : PumpRec) (st : Option Stamp) : PumpRec :=
  { r with state := .starting, timer := 0, run := some ⟨st, 0⟩, simSecs := 0, feedbackSecs := 0 }

/-- A start check (R60): the CALLED pump at the lowest duty place that meets a to d enters STARTING. It stands among the
first n, so that with the limit ZERO none starts (R56). DESIGN CHOICE (log 85): PUMP_STARTS is counted before the change of state is
handed on. -/
def handleStartCheck (e : Env) (P : Plant) : Plant × List Sig :=
  if startAllowed e P then
    match (P.pumps.duty.take (numberCalled e P.pumps)).find? (readyToStart P) with
    | none => (P, [])
    | some p =>
      let P1 := P.setPump p ((P.pumps.recs.get p).start e.clock.stamp)
      ((P1.setPumps { P1.pumps with spacing := 0 }).event e .pumpStarts 1, [.pumpState])
  else (P, [])

/-- A pump enters RUNNING (R55, R61 a, R68). DESIGN CHOICE (log 61): the guard is handed the change first, then the frost unit, then
the start check is made, so that a limit ONE for FAST acts before another pump may start. -/
def runPump (p : Pump) (P : Plant) : Plant × List Sig :=
  let r := P.pumps.recs.get p
  let P1 := P.setPump p { r with state := .running, timer := 0, windowMark := r.windowMark || P.pumps.windowOpen }
  (P1.setPumps { P1.pumps with stagnation := 0, stagnationSecs := 0 },
   [Sig.pumpState] ++ (if r.served.circ then [Sig.circEntry] else []) ++ [Sig.startCheck])

/-- The inlet watched while a pump is STARTING or RUNNING (R65): with the inlet out of bounds, each is stopped, keeps its
call and releases its claim. DESIGN CHOICE (log 49): P1 first, then P2, then P3; R65 gives no order. -/
def handleInletMoved (e : Env) (P : Plant) : Plant × List Sig :=
  if inletOpen e.cfg.set P.valves.inlet then (P, [])
  else
    match allPumps.find? fun p => (P.pumps.recs.get p).closed with
    | none => (P, [])
    | some p =>
      let x := stopPump e p .resting (P.pumps.recs.get p).served P
      (x.1, x.2 ++ [.inletMoved])

/-! ### Answers of the load-share unit (R42, R60, R63) -/

/-- A grant of a pump is an occasion for a start check (R60). -/
def grantedPump (P : Plant) : Plant × List Sig := (P, [.startCheck])

/-- A revocation of a pump (R63): a STARTING or RUNNING pump is stopped and keeps its call and its claim. -/
def revokedPump (e : Env) (p : Pump) (P : Plant) : Plant × List Sig :=
  let r := P.pumps.recs.get p
  if r.closed then (openPump e p .resting r.served P, leaveSigs r) else (P, [])

/-! ### Feedback (R61, R66, R72 c) -/

/-- A change of a pump's run feedback as the unit reads it (R61 a, R66 b, c). DESIGN CHOICE (log 66): a STARTING pump whose
feedback stood PRESENT since before its start stays STARTING when it drops, also after the feedback time has passed; R66 a tests
at the feedback time alone and R66 b in RUNNING alone. -/
def feedbackSeen (e : Env) (p : Pump) (f : Presence) (P : Plant) : Plant × List Sig :=
  let r := P.pumps.recs.get p
  match r.state, f with
  | .starting, .present => runPump p P
  | .running, .absent => lockOut e p P
  | .off, _ | .called, _ | .resting, _ => (P.setPump p { r with feedbackSecs := 0 }, [])
  | _, _ => (P, [])

/-- The end of the feedback time in STARTING (R61 b, R66 a). A feedback that stands PRESENT then leaves the pump STARTING
(log 22, and log 66 for its drop later). -/
def feedbackTimeout (e : Env) (p : Pump) (P : Plant) : Plant × List Sig :=
  let r := P.pumps.recs.get p
  if r.state = .starting then
    let P := P.setPump p { r with timer := max r.timer e.cfg.set.feedbackTime }
    if feedbackOf e P p = .absent then lockOut e p P else (P, [])
  else (P, [])

/-- Feedback PRESENT for the feedback time without a command (R66 c). -/
def feedbackFound (e : Env) (p : Pump) (P : Plant) : Plant × List Sig :=
  if (P.pumps.recs.get p).state.opensContactor && fitted e.cfg.set p && feedbackOf e P p == .present then lockOut e p P
  else (P, [])

/-! ### Rest (R64) -/

/-- The end of a rest (R64): the claim first, then the hand-over to the guard and the start check (log 61). -/
def endRest (p : Pump) (P : Plant) : Plant × List Sig :=
  let r := P.pumps.recs.get p
  if r.state = .resting then
    if r.called then
      let ask :=
        match (P.load.pumps.get p).cls? with
        | none => [Sig.claim (.pump p) r.served.cls]
        | some k => if k = r.served.cls then [] else [Sig.classChange (.pump p) r.served.cls]
      (P.setPump p { r with state := .called, timer := 0 }, ask ++ [.pumpState, .startCheck])
    else (P.setPump p { r with state := .off, timer := 0 }, [.pumpState])
  else (P, [])

/-! ### Windows, rotation and demands (R54 to R56) -/

/-- A window start handed to the pump unit (R55). -/
def handlePumpsWindowStart (P : Plant) : Plant × List Sig :=
  (P.setPumps { P.pumps with windowOpen := true,
                             recs := P.pumps.recs.map fun r => { r with windowMark := r.state == .running } }, [])

/-- A window end handed to the pump unit (R55). -/
def handlePumpsWindowEnd (P : Plant) : Plant × List Sig := (P.setPumps { P.pumps with windowOpen := false }, [])

/-- The rotation request (R55 a to c). DESIGN CHOICE (log 78): the rotation of a list of one pump, which leaves membership and order
as they were, is handed on as a change of the list. -/
def handleRotationRequest (P : Plant) : Plant × List Sig :=
  match P.pumps.duty with
  | [] => (P, [])
  | p :: rest =>
    let r := P.pumps.recs.get p
    if r.windowMark then
      if r.called then (P.setPumps { P.pumps with rotationPending := true }, [])
      else (P.setPumps { P.pumps with duty := rest ++ [p], rotationPending := false }, [.dutyChanged])
    else (P, [])

/-- A change of the duty list: the fill unit recomputes (R54), and a call evaluation follows (R57). DESIGN CHOICE (log 77): the plan
evaluation, with all that it brings, comes before the call evaluation; R54 gives no order of the two. -/
def handleDutyChanged (P : Plant) : Plant × List Sig := (P, [.planEval, .callEval])

/-- A change of a pump's state handed to the guard (R52): the fast mark's test (R121) and an evaluation (R118 c). -/
def handlePumpState (P : Plant) : Plant × List Sig := (P, [.fastTest, .guardEval])

/-- The guard limit handed (R56). -/
def handleLimit (l : Limit) (P : Plant) : Plant × List Sig :=
  if l = P.pumps.limit then (P, []) else (P.setPumps { P.pumps with limit := l }, [.callEval])

/-- The circulation demand handed (R56, R143). -/
def handleCircDemand (on : Bool) (P : Plant) : Plant × List Sig :=
  if on = P.pumps.circ then (P, []) else (P.setPumps { P.pumps with circ := on }, [.callEval])

/-! ### Restarts (R73) -/

/-- A pump after a restart (R73 a): in its start hold, or kept in LOCKOUT or OUT by a warm one, or not fitted. DESIGN
CHOICE (log 50): a pump kept in LOCKOUT or OUT counts its state timer from 0 again; R73 gives it no value. -/
def restartPump (c : Settings) (warm : Bool) (p : Pump) (r : PumpRec) : PumpRec :=
  if fitted c p then
    if warm && (r.state == .lockout || r.state == .out) then { PumpRec.resting with state := r.state } else .resting
  else { PumpRec.resting with state := .off }

/-- The pump unit after a restart (R73). -/
def restartPumps (c : Settings) (warm : Bool) (u : Pumps) : Pumps :=
  let recs : PerPump PumpRec :=
    ⟨restartPump c warm .p1 u.recs.p1, restartPump c warm .p2 u.recs.p2, restartPump c warm .p3 u.recs.p3⟩
  { Pumps.reset with
    recs := recs
    duty := (fittedPumps c).filter fun p => (recs.get p).state == .resting
    stagnation := if warm then u.stagnation else c.stagnationLimit
    stagnationSecs := if warm then u.stagnationSecs else 0 }

end Sys2Proof.Machine
end

