-- ==== Sys2Proof/Machine/Fill.lean ====
section
/-! DEFINITION. The fill unit (Part 6): the state choice, the plan arithmetic, windows and the learned draw, the
reserve, the boost, and the PLAN notice. -/

namespace Sys2Proof.Machine

/-- The guard stands in SHUT or TRIP. -/
def GuardState.shutting : GuardState → Bool
  | .shut | .trip => true
  | _ => false

/-- The level is usable (R107, R117): published since the last restart, quality GOOD or HELD. -/
def Level.usable (lv : Level) : Bool := lv.published && lv.quality != .invalid

/-! ### State choice (R95, R96) -/

/-- The topped mark as an evaluation finds it, after the clearing of R96 a (log 23). -/
def toppedKept (e : Env) (topped : Bool) : Bool :=
  topped && !(e.level.usable && e.level.shown + e.cfg.set.refillBand < e.cfg.set.fillTarget)

/-- Lines 7 to 9 of R95. -/
def chooseOpen (e : Env) (topped : Bool) : PlanState :=
  if e.level.quality = .invalid then .blindFill
  else if e.cfg.set.fillTarget ≤ e.level.shown || toppedKept e topped then .topped
  else .filling

/-- The state and the suspension reason (R95). -/
def choosePlan (e : Env) (P : Plant) : PlanState × Option SuspendReason :=
  if !e.level.published then (.idle, none)
  else if e.sys.mode ≠ .run then (.suspended, some .mode)
  else if P.guard.core.state.shutting then (.suspended, some .guard)
  else if e.clock.tariff ≠ .cheap then (.suspended, some .tariff)
  else if P.pumps.duty.isEmpty then (.suspended, some .noPump)
  else if P.valves.inlet.inFault then (.suspended, some .valve)
  else (chooseOpen e P.fill.plan.topped, none)

/-! ### Arithmetic (R97 to R100) -/

/-- Available minutes A (R97 b). -/
def availableMinutes (e : Env) : Nat := min Config.availableTop (tRem e.cfg e.clock - e.cfg.set.margin)

/-- Need N (R97 c). -/
def needOf (e : Env) (draw : Nat) : Nat :=
  if e.level.shown < e.cfg.set.fillTarget then
    ((e.cfg.volume e.cfg.set.fillTarget).getD 0 - (e.cfg.volume e.level.shown).getD 0) + draw * availableMinutes e
  else 0

/-- C_k, the delivery of the first k pumps of the duty list (R98). -/
def capacity (c : Settings) (duty : List Pump) (k : Nat) : Nat := ((duty.take k).map c.delivery.get).sum

/-- The rating of the first k pumps of the duty list (R99). -/
def ratingOf (c : Settings) (duty : List Pump) (k : Nat) : Nat := ((duty.take k).map c.pumpRating.get).sum

/-- The counts 0 to the length of the duty list. -/
def countsUpTo (duty : List Pump) : List Nat := List.range (duty.length + 1)

/-- The pumps STARTING or RUNNING with FILL among their demands served (R98 b). -/
def runningForFill (u : Pumps) : Nat :=
  (allPumps.filter fun p => (u.recs.get p).closed && (u.recs.get p).served.fill).length

/-- The smallest k whose capacity meets the need in the available minutes (R98 a). -/
def leastMeeting (c : Settings) (duty : List Pump) (need avail : Nat) : Option Nat :=
  (countsUpTo duty).find? fun k => need ≤ capacity c duty k * avail

/-- k_need, and whether the whole list could not meet the need (R98). -/
def kNeedOf (e : Env) (u : Pumps) (need avail : Nat) : Nat × Bool :=
  if avail = 0 then (runningForFill u, false)
  else
    match leastMeeting e.cfg.set u.duty need avail with
    | some k => (k, false)
    | none => (u.duty.length, true)

/-- k_max under the allowance (R99): the cap in force less the freeze sum, which may be negative. -/
def kMaxOf (c : Settings) (P : Plant) : Nat :=
  (((countsUpTo P.pumps.duty).filter fun k =>
    ratingOf c P.pumps.duty k + freezeSum c P.load ≤ P.load.cap).getLast?).getD 0

/-- Division rounded upward (R100). -/
def divUp (a b : Nat) : Nat := (a + b - 1) / b

/-- The expected finish (R100). -/
def finishOf (e : Env) (need delivery : Nat) : Finish :=
  let m := divUp need delivery
  ⟨m, if e.clock.isSet then some ((e.clock.minute + m) % Config.weekMinutes) else none⟩

/-- The figures are computed: a level has been published and a table exists (R93). -/
def figuresStand (e : Env) : Bool := e.level.published && e.cfg.geometry.isSome

/-- fill k in BLIND_FILL (R102 a, b). DESIGN CHOICE (log 58): a blind run limit raised above the blind minutes lets the blind run
go on in the same window; R102 b's "for the rest of the window" is read as long as the minutes stand at the limit. -/
def blindK (e : Env) (blind kMax : Nat) : Nat :=
  if blind < e.cfg.set.blindLimit then (if 1 ≤ kMax then 1 else 0) else 0

/-- fill k of lines 7 to 9 of R95 (R99, R101, R102). -/
def openK (e : Env) (st : PlanState) (blind kNeed kMax : Nat) : Nat :=
  match st with
  | .filling => min kNeed kMax
  | .blindFill => blindK e blind kMax
  | _ => 0

/-- SHORTFALL of an evaluation, `kn` what R98 gives: set where the whole list could not meet the need or k_max is below k_need (R99), in
BLIND_FILL as in every state, and in BLIND_FILL also where k_max is 0 while the blind run is allowed (R102 a). DEDUCED (log 28): a
SUSPENDED plan takes nothing from R102 a, also where its fill k is that of BLIND_FILL (R101). -/
def shortfallOf (e : Env) (st : PlanState) (blind : Nat) (kn : Nat × Bool) (kMax : Nat) : Bool :=
  kn.2 || kMax < kn.1 || (st == .blindFill && blind < e.cfg.set.blindLimit && kMax == 0)

/-- A plan evaluation's record and its fill k (R93 to R102). DESIGN CHOICE (log 59): the level used reads 0 in IDLE, and the
published level where no figures are computed for want of the geometry table. -/
def evaluatePlan (e : Env) (P : Plant) : Plan × Nat :=
  let choice := choosePlan e P
  let stands := figuresStand e
  let avail := if stands then availableMinutes e else 0
  let need := if stands then needOf e P.fill.draw else 0
  let kn := if stands then kNeedOf e P.pumps need avail else (0, false)
  let km := if stands then kMaxOf e.cfg.set P else 0
  let opened := if choice.2 = some .valve then chooseOpen e P.fill.plan.topped else choice.1
  let k := openK e opened P.fill.blind kn.1 km
  ({ state := choice.1
     reason := choice.2
     levelUsed := if choice.1 = .idle then 0 else e.level.shown
     need := need
     available := avail
     kNeed := kn.1
     kMax := km
     shortfall := shortfallOf e choice.1 P.fill.blind kn km
     finish := if choice.1 = .filling && 0 < k then some (finishOf e need (capacity e.cfg.set P.pumps.duty k)) else none
     topped := if choice.1 = .topped && e.cfg.set.fillTarget ≤ e.level.shown then true
               else toppedKept e P.fill.plan.topped }, k)

/-- The parts of the plan record and the demands whose change queues a PLAN notice at an evaluation (R113). -/
def planKey (p : Plan) (k : Nat) : PlanState × Option SuspendReason × Nat × Bool := (p.state, p.reason, k, p.shortfall)

/-- A plan evaluation (R94, R101, R113): the record, FILL_SHORTFALL, fill k handed, the PLAN notice. DESIGN CHOICE (log 5):
FILL_SHORTFALL is handed before the call evaluation that fill k brings, so that an evaluation which that one brings about finds it as
this one left it; R101 orders only fill k before the PLAN notice. -/
def handlePlanEval (e : Env) (P : Plant) : Plant × List Sig :=
  let x := evaluatePlan e P
  let P' := (P.setFill { P.fill with plan := x.1 }).setPumps { P.pumps with fillK := x.2 }
  (P', [Sig.cond .fillShortfall (x.1.state == .filling && x.1.shortfall)] ++
    (if x.2 = P.pumps.fillK then [] else [Sig.callEval]) ++
    (if planKey x.1 x.2 = planKey P.fill.plan P.pumps.fillK then [] else [Sig.planNotice none]))

/-! ### The PLAN notice (R113) -/

/-- The expected finish as bytes: four bytes of minutes, two of minute-of-week (R181 a, b). -/
def finishBytes (f : Option Finish) : List Byte := u32? (f.map (·.minutes)) ++ u16? (f.bind (·.minuteOfWeek))

/-- The boost record as bytes: active or not, the level and k when active (R112). DESIGN CHOICE (log 80): while none is active the
level and k keep their places and are sent as absent. -/
def boostBytes (b : Option Boost) : List Byte := mark b.isSome ++ u16? (b.map (·.level)) ++ u8? (b.map (·.k))

/-- The figures that READ PLAN and the PLAN notice share (R93). -/
def planFigures (P : Plant) : List Byte :=
  let p := P.fill.plan
  u8 p.state.code ++ u8? (p.reason.map (·.code)) ++ u16 p.levelUsed ++ u32 p.need ++ u16 p.available ++ u8 p.kNeed ++
    u8 p.kMax ++ u8 P.pumps.fillK ++ mark p.shortfall ++ finishBytes p.finish

/-- The body of a PLAN notice (R113). -/
def planBody (P : Plant) (ended : Option BoostEnd) : List Byte :=
  planFigures P ++ onOff P.pumps.reserve ++ boostBytes P.fill.boost ++ u8? (ended.map (·.code)) ++ u16 P.fill.draw

/-- A PLAN notice queued (R113). -/
def handlePlanNotice (ended : Option BoostEnd) (P : Plant) : Plant × List Sig :=
  (P.setTelem (P.telem.queueNotice ⟨.plan, 0, planBody P ended⟩), [])

/-! ### Publications (R94 c, R105, R107, R110) -/

/-- An active boost that a publication ends (R110 a, b). -/
def boostEndAt (e : Env) (b : Option Boost) : Option BoostEnd :=
  match b with
  | some b =>
    if e.level.quality = .good && b.level ≤ e.level.shown then some .reached
    else if e.level.quality = .invalid then some .invalid
    else none
  | none => none

/-- The test of an active boost at a publication (R110 a, b). -/
def handleBoostTest (e : Env) (P : Plant) : Plant × List Sig :=
  (P, match boostEndAt e P.fill.boost with | some r => [Sig.endBoost r] | none => [])

/-- A publication handed to the fill unit, a boost that it ends being ended: the usable mark cleared at INVALID (R105), the reserve
judged (R107), an evaluation where the quality or the state choice changes (R94 c). DESIGN CHOICE (log 5): in this order; no rule orders
them. DESIGN CHOICE (log 67): the test of the state takes R96 a's clearing of the topped mark, so that a TOPPED plan is FILLING at the
first publication below the target less the refill band. -/
def handleFillPublication (qualityChanged : Bool) (e : Env) (P : Plant) : Plant × List Sig :=
  let w := P.fill.window
  let P' := P.setFill { P.fill with window := { w with usable := w.usable && e.level.quality != .invalid } }
  (P', [Sig.reserveJudge] ++
    (if qualityChanged || (choosePlan e P).1 ≠ P.fill.plan.state then [Sig.planEval] else []))

/-! ### Reserve (R107, R108) -/

/-- The reserve as a judgement gives it (R107 a to c). -/
def reserveAfter (e : Env) (P : Plant) : Bool :=
  if e.level.low.reported = .dry || (e.level.usable && e.level.shown < e.cfg.set.reserveLevel) then true
  else if P.pumps.reserve then
    if e.level.usable then e.level.shown < e.cfg.set.reserveLevel + e.cfg.set.reserveBand
    else P.fill.lowWet < Config.lowWetMinutes
  else false

/-- A judgement of the reserve (R107): at a turn it is handed, LOW_RESERVE appears or goes, a PLAN notice is queued. DESIGN CHOICE
(log 5): LOW_RESERVE comes before the call evaluation that the reserve brings, and the PLAN notice after it; R107 and R108 give no
order. -/
def handleReserveJudge (e : Env) (P : Plant) : Plant × List Sig :=
  let on := reserveAfter e P
  if on = P.pumps.reserve then (P, [])
  else (P.setPumps { P.pumps with reserve := on }, [.cond .lowReserve on, .callEval, .planNotice none])

/-! ### Boost (R109, R110) -/

/-- An active boost ended (R110): boost k = 0 handed, a PLAN notice with the boost end after the call evaluation. -/
def handleEndBoost (r : BoostEnd) (P : Plant) : Plant × List Sig :=
  match P.fill.boost with
  | some _ =>
    ((P.setFill { P.fill with boost := none, boostEnd := some r }).setPumps { P.pumps with boostK := 0 },
     [.callEval, .planNotice (some r)])
  | none => (P, [])

/-- A boost set (R109 f). -/
def startBoost (level k : Nat) (P : Plant) : Plant × List Sig :=
  ((P.setFill { P.fill with boost := some ⟨level, k⟩ }).setPumps { P.pumps with boostK := k },
   (if k = P.pumps.boostK then [] else [Sig.callEval]) ++ [.planNotice none])

/-! ### Windows and the learned draw (R103 to R106) -/

/-- The window record opened at a window start (R105). -/
def openRecord (e : Env) : WindowRecord :=
  let v := if e.level.quality = .good then e.cfg.volume e.level.shown else none
  ⟨v, 0, 0, v.isSome && e.sys.mode == .run⟩

/-- A window start taken by the fill unit (R103). -/
def handleFillWindowStart (e : Env) (P : Plant) : Plant × List Sig :=
  (P.setFill { P.fill with windowOpen := true, minuteSecs := 0, blind := 0, window := openRecord e,
                           plan := { P.fill.plan with topped := false } },
   [.pumpsWindowStart, .planEval])

/-- What a window record that is learnt from gives (R106): its stored rise and its observed draw. -/
def storedRise (e : Env) (w : WindowRecord) : Option Int :=
  if w.usable && e.level.quality == Quality.good && 1 ≤ w.minutes then
    match w.startVolume, e.cfg.volume e.level.shown with
    | some v, some v' => some ((v' : Int) - v)
    | _, _ => none
  else none

/-- D_obs (R106 b), truncated toward zero and clamped. -/
def observedDraw (w : WindowRecord) (rise : Int) : Nat :=
  (clampInt 0 65535 (Int.tdiv ((w.inflow : Int) - rise) w.minutes)).toNat

/-- The learned draw after a window end (R106 c). -/
def learnDraw (draw obs : Nat) : Nat := (7 * draw + obs + 4) / 8

/-- The METER test finds too little inflow (R106 d). -/
def meterFails (w : WindowRecord) (rise : Int) : Bool := 0 < rise && 100 * (w.inflow : Int) < 95 * rise

/-- A pump whose demands served include FILL is RUNNING (R102). -/
def fillRunning (u : Pumps) : Bool := allPumps.any fun p => (u.recs.get p).state == .running && (u.recs.get p).served.fill

/-- An expiry of the minute timer counted: in the window minutes (R105), and in the blind minutes while a fill pump runs in
BLIND_FILL (R102). -/
def Fill.counted (u : Pumps) (f : Fill) : Fill :=
  { f with minuteSecs := 0
           blind := if f.plan.state = .blindFill && fillRunning u then min 240 (f.blind + 1) else f.blind
           window := { f.window with minutes := min 10080 (f.window.minutes + 1) } }

/-- The fill unit as a window end finds it. DESIGN CHOICE (log 52): an expiry of the minute timer that falls in the same second
is counted first, as the 420 expiries of section 6.6's worked case have it. -/
def Fill.atEnd (u : Pumps) (f : Fill) : Fill := if 60 ≤ f.minuteSecs then f.counted u else f

/-- A window end taken by the fill unit (R104). -/
def handleFillWindowEnd (e : Env) (P : Plant) : Plant × List Sig :=
  let f := P.fill.atEnd P.pumps
  let w := f.window
  let f := { f with windowOpen := false, minuteSecs := 0, plan := { f.plan with topped := false } }
  match storedRise e w with
  | some rise =>
    (P.setFill { f with draw := learnDraw P.fill.draw (observedDraw w rise) },
     [.cond .meter (meterFails w rise), .planEval, .pumpsWindowEnd, .rotationRequest])
  | none => (P.setFill f, [.planEval, .pumpsWindowEnd, .rotationRequest])

/-- An expiry of the minute timer (R94 b, R102, R105). -/
def fillMinute (P : Plant) : Plant × List Sig :=
  if P.fill.windowOpen then (P.setFill (P.fill.counted P.pumps), [.planEval]) else (P, [])

/-- The litres of an inflow pulse added to the window inflow while the window is open (R105). -/
def fillInflow (e : Env) (P : Plant) : Plant :=
  if P.fill.windowOpen then
    P.setFill { P.fill with window :=
      { P.fill.window with inflow := satAdd maxU32 P.fill.window.inflow e.cfg.set.litresPerPulse } }
  else P

/-- The LOW wet timer after a float change of the LOW float (R107): it starts afresh at 0 either way. -/
def lowChanged (P : Plant) : Plant := P.setFill { P.fill with lowWet := 0, lowWetSecs := 0 }

/-- The fill unit after a restart (R115 a to e, g). -/
def restartFill (c : Settings) (warm : Bool) (f : Fill) : Fill :=
  { Fill.reset with draw := if warm then f.draw else c.initialDraw }

end Sys2Proof.Machine
end

