-- ==== Sys2Proof/Machine/Guard.lean ====
section
/-! DEFINITION. The overflow guard (Part 7): the marks, the evaluation, acting on a guard change, the trip latch, the
dump's run-on, the auto-clear. -/

namespace Sys2Proof.Machine

/-! ### Marks (R119 to R121) -/

/-- The high mark after a publication (R119). -/
def highAfter (c : Settings) (lv : Level) (m : Bool) : Bool :=
  if lv.usable && c.lHigh ≤ lv.shown then true
  else if lv.quality = .invalid || (lv.quality == Quality.good && lv.shown + c.hysteresis < c.lHigh) then false
  else m

/-- The high-high mark is set at a publication (R120). -/
def highHighSets (c : Settings) (lv : Level) : Bool := lv.usable && c.lHh ≤ lv.shown

/-- The release timer's conditions b and c (R120). -/
def releaseHolds (c : Settings) (lv : Level) : Bool := lv.quality == Quality.good && lv.shown + c.hysteresis < c.lHh

/-- The fast mark (R121). -/
def fastHolds (e : Env) (P : Plant) : Bool := e.level.rate.isSome && e.level.tOvf < e.cfg.set.tWarn && anyRunning P

/-- A timer that runs from the moment its conditions hold and is stopped at 0 while one fails (R120, R129). -/
def Timer.judge (t : Timer) (holds : Bool) : Timer := if holds then (if t.running then t else ⟨true, 0⟩) else .stopped

/-- The three marks tested and the release timer moved (R119 to R121), with the GUARD_SHUTS event of R120. DESIGN CHOICE
(log 63): GUARD_SHUTS is counted before HIGH and HIGH_HIGH appear or go, in that order; R119 and R120 give none. -/
def handleGuardTests (e : Env) (P : Plant) : Plant × List Sig :=
  let c := e.cfg.set
  let g := P.guard.core
  let high := highAfter c e.level g.high
  let hh := g.highHigh || highHighSets c e.level
  let P1 := P.setCore { g with high := high, highHigh := hh, fast := fastHolds e P,
                               release := g.release.judge (hh && releaseHolds c e.level) }
  (if hh && !g.highHigh && !g.latch then P1.event e .guardShuts 1 else P1,
   [.cond .high high, .cond .highHigh hh])

/-- The fast mark's test alone (R121). -/
def handleFastTest (e : Env) (P : Plant) : Plant × List Sig :=
  (P.setCore { P.guard.core with fast := fastHolds e P }, [])

/-! ### Evaluation (R118) -/

/-- The state and reason that the table of R118 chooses. -/
def chooseGuard (e : Env) (g : GuardCore) : GuardState × GuardReason :=
  if g.latch then (.trip, .overFloat)
  else if !e.level.published then (.shut, .restart)
  else if g.highHigh then (.shut, .highHigh)
  else if e.level.quality = .invalid then (.blind, .invalid)
  else if g.high then (.watch, .high)
  else if g.fast then (.watch, .fast)
  else (.normal, .none)

/-- The guard limit that a line of R118 hands. -/
def guardLimit (s : GuardState) (r : GuardReason) : Limit :=
  match s, r with
  | .shut, _ | .trip, _ => .zero
  | .blind, _ => .one
  | .watch, .fast => .one
  | .watch, _ => .zero
  | .normal, _ => .none

/-- The dump's target on entry into TRIP (R126 a). -/
def dumpTarget (e : Env) : Nat := if e.level.overFloat.reported = .wet then e.cfg.set.pDump else 0

/-- The record after a guard change into `s` for `r`: the holds of R122, R123 and R126, the run-on timer of R126 a, e. -/
def GuardCore.become (e : Env) (g : GuardCore) (s : GuardState) (r : GuardReason) : GuardCore :=
  { g with
    state := s
    reason := r
    inletHold := if s.shutting then (if g.state.shutting then g.inletHold else some 0) else none
    dumpHold := if s = .trip then (if g.state = .trip then g.dumpHold else some (dumpTarget e)) else none
    runOn := if s = .trip && g.state = .trip then g.runOn else .stopped }

/-- What the guard asks of the valves at a change from `g` into `s` (R122, R123, R126): the inlet closed and held or
released, the dump asked on entry into TRIP, closed and released on leaving it. -/
def guardValveSigs (e : Env) (g : GuardCore) (s : GuardState) : List Sig :=
  (if s.shutting && !g.state.shutting then [Sig.guardAsk .inlet 0] else []) ++
  (if !s.shutting && g.state.shutting then [Sig.guardRelease .inlet] else []) ++
  (if s = .trip && g.state ≠ .trip then [Sig.guardAsk .dump (dumpTarget e)] else []) ++
  (if s ≠ .trip && g.state = .trip then
    (if g.dumpHold = some 0 then [] else [Sig.guardAsk .dump 0]) ++ [Sig.guardRelease .dump] else [])

/-! ### The trip (R125, R126) -/

/-- The test of R128 d passes, or is not made. -/
def clearTest (e : Env) : Bool := !(e.level.usable && e.cfg.set.lHigh ≤ e.level.shown + e.cfg.set.hysteresis)

/-- The auto-clear timer started and stopped (R129). -/
def handleAutoClearJudge (e : Env) (P : Plant) : Plant × List Sig :=
  let g := P.guard.core
  let holds := P.guard.silence && g.latch && e.level.overFloat.reported == Wet.dry && clearTest e
  (P.setCore { g with autoClear := g.autoClear.judge holds,
                      autoClearSecs := if holds && g.autoClear.running then g.autoClearSecs else 0 }, [])

/-- The wetting of the OVER float (R125, R126 c). DESIGN CHOICE (log 63): GUARD_SHUTS is counted, then OVERFLOW_TRIP appears, then
the auto-clear timer is judged, then the guard evaluates; R125 does not place the appearance. -/
def overWets (e : Env) (P : Plant) : Plant × List Sig :=
  let g := P.guard.core
  if g.latch then
    (P.setCore { g with dumpHold := some e.cfg.set.pDump, runOn := .stopped },
     [.guardAsk .dump e.cfg.set.pDump, .autoClearJudge, .guardEval])
  else
    ((P.setCore { g with latch := true }).event e .guardShuts 1,
     [.cond .overflowTrip true, .autoClearJudge, .guardEval])

/-- The drying of the OVER float (R126 b). -/
def overDries (P : Plant) : Plant × List Sig :=
  let g := P.guard.core
  (if g.state = .trip then P.setCore { g with runOn := ⟨true, 0⟩ } else P, [.autoClearJudge, .guardEval])

/-- A float change of the OVER float (R125, R126). -/
def handleOverChange (e : Env) (P : Plant) : Plant × List Sig :=
  if e.level.overFloat.reported = .wet then overWets e P else overDries P

/-- The latch cleared (R128, R129). DESIGN CHOICE (log 63): OVERFLOW_TRIP goes before the guard is evaluated. -/
def clearLatch (P : Plant) : Plant × List Sig :=
  (P.setCore { P.guard.core with latch := false, autoClear := .stopped, autoClearSecs := 0 },
   [.cond .overflowTrip false, .guardEval])

/-! ### Timer expiries (R120, R126 d, R129) -/

/-- The release timer's expiry (R120). DESIGN CHOICE (log 63): HIGH_HIGH goes before the guard is evaluated. -/
def releaseExpires (P : Plant) : Plant × List Sig :=
  let g := P.guard.core
  if g.release.running then
    (P.setCore { g with highHigh := false, release := .stopped }, [.cond .highHigh false, .guardEval])
  else (P, [])

/-- The run-on timer's expiry (R126 d). -/
def runOnExpires (P : Plant) : Plant × List Sig :=
  let g := P.guard.core
  if g.runOn.running then
    (P.setCore { g with runOn := ⟨false, Config.runOnSeconds⟩, dumpHold := some 0 }, [.guardAsk .dump 0])
  else (P, [])

/-- The auto-clear timer's expiry (R129). -/
def autoClearExpires (P : Plant) : Plant × List Sig :=
  if P.guard.core.autoClear.running then clearLatch P else (P, [])

/-! ### Silence (R129, R179) -/

/-- The start or end of silence handed by the link unit. -/
def silenceHanded (on : Bool) (P : Plant) : Plant × List Sig :=
  (P.setGuard { P.guard with silence := on }, [.autoClearJudge])

/-- The guard after a restart, before it asks for the inlet and judges the latch (R132). -/
def restartGuard (latch : Bool) : Guard :=
  { Guard.reset with core := { GuardCore.reset with latch := latch } }

end Sys2Proof.Machine
end

