-- ==== Sys2Proof/Machine/Frost.lean ====
section
/-! DEFINITION. The frost unit (Part 8): sensors, zones and heaters, classes, fallback, the FREEZE condition,
circulation and frost boost. -/

namespace Sys2Proof.Machine

/-! ### Sensors (R133, R134) -/

/-- What a read gives: the temperature of a good read, `none` for a bad one (R133). -/
def goodRead (answer : Option Int) : Option Int :=
  match answer with
  | some t => if Config.tempMin ≤ t && t ≤ Config.tempMax then some t else none
  | none => none

/-- A sensor record after one read (R133, R134). -/
def Sensor.read (s : Sensor) (answer : Option Int) : Sensor :=
  match goodRead answer with
  | some t =>
    let g := min Config.sensorRun (s.goodRun + 1)
    ⟨some t, s.faulted && g != Config.sensorRun, 0, g⟩
  | none =>
    let b := min Config.sensorRun (s.badRun + 1)
    ⟨s.reading, s.faulted || b == Config.sensorRun, b, 0⟩

/-- The reading of a sensor lies below a temperature. -/
def Sensor.below (s : Sensor) (t : Int) : Bool := s.reading.any (· < t)

/-- The reading of a sensor lies at or above a temperature. -/
def Sensor.atLeast (s : Sensor) (t : Int) : Bool := s.reading.any (t ≤ ·)

/-! ### Zones -/

/-- A zone's settings (R135). -/
def zoneSet (e : Env) (z : Zone) : ZoneSettings := e.cfg.set.zone.get z

/-- A zone's record. -/
def zoneRec (P : Plant) (z : Zone) : ZoneRec := P.frost.zones.get z

/-- A zone's sensor record. -/
def zoneSens (P : Plant) (z : Zone) : Sensor := P.frost.sensors.get z

/-- The class that a zone's claim is made and kept with (R139). -/
def zoneClassOf (e : Env) (P : Plant) (z : Zone) : LoadClass :=
  if (zoneRec P z).boost || (!(zoneSens P z).faulted && (zoneSens P z).below (zoneSet e z).critical) then .freeze
  else .warm

/-- The FREEZE condition (R142): some zone's freeze timer stands at 10. -/
def freezePresent (P : Plant) : Bool := allZones.any fun z => (zoneRec P z).freeze == Config.freezeMinutes

/-- The HEAT_ENERGY event of a heater that is switched off (R138): only where the output was driven. DESIGN CHOICE (log 85): it is
counted before the release is handed. -/
def heatEvent (e : Env) (z : Zone) (P : Plant) : Plant :=
  if heaterOutput e P z then
    P.event e .heatEnergy (e.cfg.set.zoneRating.get z * (zoneRec P z).onSecs)
  else P

/-- A zone's record with its heater command OFF from now on, where it was ON (R136). -/
def ZoneRec.heaterOff (r : ZoneRec) (was : Bool) : ZoneRec := if was then { r with timer := 0, onSecs := 0 } else r

/-- A zone that gives up its claim for another state: HEAT_ENERGY where its heater was on, then the release (R137 b, c,
R140, R141). -/
def releaseZone (e : Env) (z : Zone) (st : ZoneState) (P : Plant) : Plant × List Sig :=
  let P1 := heatEvent e z P
  (P1.setZone z { (zoneRec P z).heaterOff (heaterOn P z) with state := st }, [.release (.zone z)])

/-- A zone claims with the class of R139 and waits (R137 a). -/
def claimZone (e : Env) (z : Zone) (P : Plant) : Plant × List Sig :=
  (P.setZone z { zoneRec P z with state := .want }, [.claim (.zone z) (zoneClassOf e P z)])

/-- A judgement of a zone whose sensor is IN_SERVICE and has a reading (R137). -/
def handleZoneJudge (z : Zone) (e : Env) (P : Plant) : Plant × List Sig :=
  let r := zoneRec P z
  let s := zoneSens P z
  let c := zoneSet e z
  if s.faulted || s.reading.isNone then (P, [])
  else
    match r.state with
    | .off => if (s.below c.onBelow || r.boost) && Config.minimumOff ≤ r.timer then claimZone e z P else (P, [])
    | .want => if s.atLeast c.offAbove && !r.boost then releaseZone e z .off P else (P, [])
    | .heat =>
      if s.atLeast c.offAbove && !r.boost && Config.minimumOn ≤ r.timer then releaseZone e z .off P else (P, [])
    | _ => (P, [])

/-- A judgement of a zone's class (R139). -/
def handleZoneClass (z : Zone) (e : Env) (P : Plant) : Plant × List Sig :=
  match (P.load.zones.get z).cls? with
  | some k => (P, if k = zoneClassOf e P z then [] else [.classChange (.zone z) (zoneClassOf e P z)])
  | none => (P, [])

/-- A zone whose heater follows its claim: in WANT, HEAT or FALLBACK. A zone that a change of mode has just made OFF holds
a claim only until its own release is taken (R148). -/
def ZoneState.claims : ZoneState → Bool
  | .want | .heat | .fallback => true
  | .off | .disabled => false

/-- A grant of a zone's claim (R138 a): heater ON, timer 0, WANT to HEAT, the freeze timer 0 on entry into HEAT (R142). -/
def grantedZone (z : Zone) (P : Plant) : Plant × List Sig :=
  let r := zoneRec P z
  if r.state.claims then
    let r1 := { r with timer := 0, onSecs := 0 }
    let r2 := if r.state = .want then { r1 with state := .heat, freeze := 0, freezeSecs := 0 } else r1
    (P.setZone z r2, [.freezeAlarm])
  else (P, [])

/-- A revocation of a zone's claim (R138 b): heater OFF, timer 0, HEAT_ENERGY, HEAT to WANT. The load-share unit has made
the claim WAITING already, so the event is handed here on the record's own on seconds. -/
def revokedZone (e : Env) (z : Zone) (P : Plant) : Plant × List Sig :=
  let r := zoneRec P z
  if r.state.claims then
    let P1 := if e.sys.mode = .commission then P
              else P.event e .heatEnergy (e.cfg.set.zoneRating.get z * r.onSecs)
    (P1.setZone z { r with timer := 0, onSecs := 0, state := if r.state = .heat then .want else r.state }, [])
  else (P, [])

/-! ### Fallback (R140) -/

/-- The class of the claim that the fallback duty calls for, or none (R140). -/
def dutyClass (P : Plant) (z : Zone) : Option LoadClass :=
  let r := zoneRec P z
  let a := P.frost.air
  if r.boost then some .freeze
  else if a.faulted || a.reading.isNone then some .warm
  else if a.below Config.fallbackAir then (if r.fallback.any (·.on) then some .warm else none)
  else none

/-- The fallback duty applied to a zone in FALLBACK (R140). -/
def handleZoneDuty (z : Zone) (e : Env) (P : Plant) : Plant × List Sig :=
  if (zoneRec P z).state = .fallback then
    match dutyClass P z, (P.load.zones.get z).cls? with
    | some k, none => (P, [.claim (.zone z) k])
    | some k, some k' => (P, if k = k' then [] else [.classChange (.zone z) k])
    | none, some _ => releaseZone e z .fallback P
    | none, none => (P, [])
  else (P, [])

/-- Entry into FALLBACK (R140): phase ON at 0, freeze timer 0, the class of R139, then the duty. -/
def enterFallback (z : Zone) (P : Plant) : Plant × List Sig :=
  let P := P.setZone z { zoneRec P z with state := .fallback, fallback := some ⟨true, 0, 0⟩, freeze := 0, freezeSecs := 0 }
  (P, [.freezeAlarm, .zoneClass z, .zoneDuty z])

/-- The state that a zone's claim gives as it leaves FALLBACK (R140). -/
def stateOfClaim : Claim → ZoneState
  | .granted _ _ _ => .heat
  | .waiting _ _ => .want
  | .idle => .off

/-- A judgement of a zone's state and class, by R137 and R139 or by the fallback duty (R140). DESIGN CHOICE (log 51): the
state first, then the class; R137 and R139 do not order the two. -/
def judgeSigs (z : Zone) : List Sig := [.zoneJudge z, .zoneClass z, .zoneDuty z]

/-- The judgements at the clearing of a zone's boost mark (R145): the class first, so that the claim is WARM when the state
is judged. -/
def clearedSigs (z : Zone) : List Sig := [.zoneClass z, .zoneJudge z, .zoneDuty z]

/-- Exit from FALLBACK (R140), with the freeze timer 0 on entry into HEAT (R142); `cleared` when the read that brings it
clears the boost mark. -/
def leaveFallback (z : Zone) (cleared : Bool) (P : Plant) : Plant × List Sig :=
  let st := stateOfClaim (P.load.zones.get z)
  let r := zoneRec P z
  let r1 := { r with state := st, fallback := none }
  (P.setZone z (if st = .heat then { r1 with freeze := 0, freezeSecs := 0 } else r1),
   .freezeAlarm :: if cleared then clearedSigs z else judgeSigs z)

/-! ### Reads (R133, R134, R144, R145 a) -/

/-- The riser zones, which circulation and frost boost concern (R144, R145). -/
def isRiser : Zone → Bool
  | .z1 | .z2 => true
  | _ => false

/-- What a good read does to a zone's record: the freeze timer 0 at or above critical (R142), the boost mark cleared at or
above off_above (R145 a). -/
def ZoneRec.onRead (c : ZoneSettings) (s : Sensor) (r : ZoneRec) : ZoneRec :=
  let r := if s.atLeast c.critical then { r with freeze := 0, freezeSecs := 0 } else r
  if s.atLeast c.offAbove && !s.faulted then { r with boost := false } else r

/-- One read of a zone's sensor (R133): the record, the status change with its condition and FALLBACK (R134, R140), the
judgements, the circulation test (R144). DESIGN CHOICE (log 51): in this order, FREEZE before the judgements. -/
def handleZoneRead (z : Zone) (answer : Option Int) (e : Env) (P : Plant) : Plant × List Sig :=
  let s := zoneSens P z
  let s' := s.read answer
  let c := zoneSet e z
  let P1 := P.setFrost { P.frost with sensors := P.frost.sensors.set z s' }
  match goodRead answer with
  | some _ =>
    let r := zoneRec P z
    let r' := r.onRead c s'
    let P2 := P1.setZone z r'
    let cleared := r.boost && !r'.boost
    if s.faulted && !s'.faulted && c.enabled then
      let x := leaveFallback z cleared P2
      (x.1, [.cond (zoneSensor z) false] ++ x.2 ++ (if isRiser z then [.circTest] else []))
    else
      (P2, [.freezeAlarm] ++ (if cleared then clearedSigs z else judgeSigs z) ++ (if isRiser z then [.circTest] else []))
  | none =>
    if !s.faulted && s'.faulted && c.enabled then
      let x := enterFallback z P1
      (x.1, .cond (zoneSensor z) true :: x.2)
    else (P1, [])

/-- One read of the air sensor (R133, R134): its condition, and the fallback duty of every zone at each good read and at
each change of status (R140). DESIGN CHOICE (log 64): AIR_SENSOR first, then the duty of Z1, Z2, Z3, Z4. -/
def handleAirRead (answer : Option Int) (P : Plant) : Plant × List Sig :=
  let s := P.frost.air
  let s' := s.read answer
  (P.setFrost { P.frost with air := s' },
   (if s.faulted = s'.faulted then [] else [Sig.cond .airSensor s'.faulted]) ++
     (if (goodRead answer).isSome || s.faulted != s'.faulted then allZones.map Sig.zoneDuty else []))

/-! ### Circulation and frost boost (R143 to R146) -/

/-- The reading of a riser zone calls for circulation (R144). -/
def riserCold (e : Env) (P : Plant) (z : Zone) : Bool :=
  (zoneSet e z).enabled && !(zoneSens P z).faulted && (zoneSens P z).below e.cfg.set.circBelow

/-- Circulation is wanted (R144). -/
def circWanted (e : Env) (P : Plant) : Bool :=
  (riserCold e P .z1 || riserCold e P .z2) && e.cfg.set.stagnationLimit ≤ P.pumps.stagnation

/-- The allowance test (R144 a to e): the first test that fails. -/
def circRefusal (e : Env) (P : Plant) : Option Refused :=
  if !(e.level.published && e.level.quality == Quality.good) then some .level
  else if e.cfg.set.lHigh < e.level.shown + e.cfg.set.circHeadroom then some .headroom
  else if P.guard.core.state ≠ .normal then some .guard
  else if P.pumps.duty.isEmpty then some .noPump
  else if e.sys.mode = .setup then some .mode
  else none

/-- The circulation record replaced. -/
def Plant.setCirc (P : Plant) (c : Circ) : Plant := P.setFrost { P.frost with circ := c }

/-- Circulation demanded (R144, R145). DESIGN CHOICE (log 71): each timer of the record is 0 outside the state in which it counts. -/
def demandCirc (P : Plant) : Plant × List Sig :=
  (P.setCirc { P.frost.circ with state := .demanded, wait := 0, run := 0, retry := 0 }, [.circDemand true])

/-- A riser zone enters frost boost at a refusal (R145). -/
def entersBoost (e : Env) (P : Plant) (z : Zone) : Bool :=
  !(zoneRec P z).boost && (zoneSet e z).enabled &&
    !(!(zoneSens P z).faulted && (zoneSens P z).atLeast (zoneSet e z).offAbove)

/-- A zone's boost mark set, where it enters frost boost. -/
def boostZone (e : Env) (z : Zone) (P : Plant) : Plant × List Sig :=
  if entersBoost e P z then (P.setZone z { zoneRec P z with boost := true }, judgeSigs z) else (P, [])

/-- A zone's boost mark cleared, with the judgements at the clearing (R145). -/
def unboostZone (z : Zone) (P : Plant) : Plant × List Sig :=
  if (zoneRec P z).boost then (P.setZone z { zoneRec P z with boost := false }, clearedSigs z)
  else (P, [])

/-- A refusal of circulation (R145). DESIGN CHOICE (log 51): the demand 0 first, then what follows from the boost of Z1, then of Z2.
DESIGN CHOICE (log 71): the wait and run timers are 0 in REFUSED. -/
def handleCircRefuse (r : Refused) (e : Env) (P : Plant) : Plant × List Sig :=
  let P0 := P.setCirc ⟨.refused, 0, 0, 0, some r⟩
  let x := boostZone e .z1 P0
  let y := boostZone e .z2 x.1
  (y.1, .circDemand false :: x.2 ++ y.2)

/-- The allowance test made and acted on (R144, R145). -/
def askCirc (e : Env) (P : Plant) : Plant × List Sig :=
  match circRefusal e P with
  | none => demandCirc P
  | some r => handleCircRefuse r e P

/-- The circulation test while QUIET (R144). -/
def handleCircTest (e : Env) (P : Plant) : Plant × List Sig :=
  if P.frost.circ.state = .quiet && circWanted e P then askCirc e P else (P, [])

/-- The retry test while REFUSED (R145). DESIGN CHOICE (log 71): the retry timer is 0 once REFUSED is left. -/
def handleCircRetry (e : Env) (P : Plant) : Plant × List Sig :=
  if P.frost.circ.state = .refused then
    if circWanted e P then askCirc e P
    else (P.setCirc { P.frost.circ with state := .quiet, retry := 0 }, [])
  else (P, [])

/-- The entry into RUNNING of a pump serving circulation (R146). DESIGN CHOICE (log 71): the wait timer is 0 once DEMANDED is left. -/
def handleCircEntry (P : Plant) : Plant × List Sig :=
  if P.frost.circ.state = .demanded then (P.setCirc { P.frost.circ with state := .run, wait := 0, run := 0 }, [])
  else (P, [])

/-- The exit from RUNNING of the circulation pump (R146 b). DESIGN CHOICE (log 71): the run timer is 0 once RUN is left. -/
def handleCircExit (P : Plant) : Plant × List Sig :=
  if P.frost.circ.state = .run then (P.setCirc { P.frost.circ with state := .demanded, wait := 0, run := 0 }, [])
  else (P, [])

/-- The completion of a circulation run (R146 a). DESIGN CHOICE (log 5): CIRC_RUNS is counted before the demand 0 is carried out, and so
before the PUMP_RUN_SECONDS of a pump that it uncalls. DESIGN CHOICE (log 71): the run timer is 0 once RUN is left. -/
def completeCirc (e : Env) (P : Plant) : Plant × List Sig :=
  if P.frost.circ.state = .run then
    let P0 := (P.setCirc { P.frost.circ with state := .quiet, run := 0 }).event e .circRuns 1
    let x := unboostZone .z1 P0
    let y := unboostZone .z2 x.1
    (y.1, .circDemand false :: x.2 ++ y.2)
  else (P, [])

/-- The wait of ten minutes in DEMANDED has passed (R146). -/
def circWaitEnds (e : Env) (P : Plant) : Plant × List Sig :=
  if P.frost.circ.state = .demanded then handleCircRefuse .wait e P else (P, [])

/-- A record in DEMANDED or RUN that must end as a refusal (R146, R148 b). -/
def circUnderWay (P : Plant) : Bool := P.frost.circ.state == .demanded || P.frost.circ.state == .run

/-- A guard change as the frost unit is handed it (R146): out of NORMAL it ends a record in DEMANDED or RUN. -/
def circGuardEnd (e : Env) (P : Plant) : Plant × List Sig :=
  if P.guard.core.state ≠ .normal && circUnderWay P then handleCircRefuse .guardEnd e P else (P, [])

/-! ### Timer expiries (R137, R140, R142) -/

/-- A heater timer that reaches 60 s in OFF or 120 s in HEAT (R137). -/
def heaterExpires (z : Zone) (P : Plant) : Plant × List Sig :=
  let r := zoneRec P z
  match r.state with
  | .off => (P.setZone z { r with timer := max r.timer Config.minimumOff }, [.zoneJudge z])
  | .heat => (P.setZone z { r with timer := max r.timer Config.minimumOn }, [.zoneJudge z])
  | _ => (P, [])

/-- A fallback phase that has lasted 10 minutes changes (R140). -/
def phaseChanges (z : Zone) (P : Plant) : Plant × List Sig :=
  let r := zoneRec P z
  match r.state, r.fallback with
  | .fallback, some f => (P.setZone z { r with fallback := some ⟨!f.on, 0, 0⟩ }, [.zoneDuty z])
  | _, _ => (P, [])

/-- The freeze timer of a zone counts (R142). -/
def freezeCounts (e : Env) (P : Plant) (z : Zone) : Bool :=
  (zoneSet e z).enabled && !(zoneSens P z).faulted && (zoneSens P z).below (zoneSet e z).critical &&
    (zoneRec P z).state != .heat

/-- One minute of a zone's freeze timer (R142). -/
def freezeMinute (z : Zone) (e : Env) (P : Plant) : Plant × List Sig :=
  if freezeCounts e P z then
    let r := zoneRec P z
    (P.setZone z { r with freeze := min Config.freezeMinutes (r.freeze + 1), freezeSecs := 0 }, [.freezeAlarm])
  else (P, [])

/-! ### Enabling and disabling (R141), modes (R148), restarts (R149) -/

/-- A zone taken out (R141). DESIGN CHOICE (log 51): its conditions go before its release is handed, what follows from which finds
it DISABLED. -/
def disableZone (z : Zone) (e : Env) (P : Plant) : Plant × List Sig :=
  let x := releaseZone e z .disabled P
  let r := zoneRec x.1 z
  (x.1.setZone z { r with boost := false, freeze := 0, freezeSecs := 0, fallback := none },
   [.cond (zoneSensor z) false, .freezeAlarm] ++ x.2)

/-- A zone brought back (R141). DESIGN CHOICE (log 51): where its sensor is FAULTED the sensor's condition is handed first, then FREEZE,
the class and the fallback duty of `enterFallback`; R141 gives no order. -/
def enableZone (z : Zone) (P : Plant) : Plant × List Sig :=
  if (zoneSens P z).faulted then
    let x := enterFallback z P
    (x.1, .cond (zoneSensor z) true :: x.2)
  else (P.setZone z { zoneRec P z with state := .off, timer := 65535 }, [.zoneJudge z])

/-- Whether any zone holds a claim (R148). -/
def anyZoneClaim (P : Plant) : Bool := allZones.any fun z => P.load.zones.get z != .idle

/-- A zone's record as COMMISSION is left (R148): OFF with its minimum off time served, or DISABLED. -/
def ZoneRec.leaveCommission (enabled : Bool) (r : ZoneRec) : ZoneRec :=
  { ZoneRec.reset with state := if enabled then .off else .disabled, timer := if enabled then 65535 else r.timer }

/-- A sensor record as COMMISSION is left (R148). -/
def Sensor.fresh (reading : Option Int) : Sensor := ⟨reading, false, 0, 0⟩

/-- The frost unit's records as COMMISSION is left (R148): every heater command OFF with no HEAT_ENERGY. The air
record leaves with its last good real read as the zones' do (log 79). -/
def frostLeavesCommission (e : Env) (P : Plant) : Plant :=
  let b := P.frost.realGood
  let zs := e.cfg.set.zone
  let f : Frost :=
    { zones := ⟨P.frost.zones.z1.leaveCommission zs.z1.enabled, P.frost.zones.z2.leaveCommission zs.z2.enabled,
                P.frost.zones.z3.leaveCommission zs.z3.enabled, P.frost.zones.z4.leaveCommission zs.z4.enabled⟩
      sensors := ⟨.fresh b.z1, .fresh b.z2, .fresh b.z3, .fresh b.z4⟩
      air := .fresh b.air
      circ := { P.frost.circ with state := .quiet, wait := 0, run := 0, retry := 0 }
      realGood := .silent }
  P.setFrost f

/-- The releases of the zones as COMMISSION is left (R148); a record that is IDLE has nothing to release. DESIGN CHOICE (log 24): Z1,
Z2, Z3, Z4; R148 gives no order. -/
def zoneReleaseSigs : List Sig := allZones.map fun z => Sig.release (.zone z)

/-- What the frost unit hands on as COMMISSION is left besides its releases (R148): the conditions of simulated reads go, the
circulation demand is 0, every zone is judged on its real reading. DESIGN CHOICE (log 24): in this order, the sensor conditions and the
judgements each Z1, Z2, Z3, Z4; R148 gives none. -/
def frostExitSigs : List Sig :=
  allZones.map (fun z => Sig.cond (zoneSensor z) false) ++ [.cond .airSensor false, .freezeAlarm, .circDemand false] ++
    allZones.map Sig.zoneJudge

/-- A zone after a restart (R149 a). -/
def restartZone (enabled : Bool) : ZoneRec := { ZoneRec.reset with state := if enabled then .off else .disabled }

/-- The frost unit after a restart, before its first reads (R149). -/
def restartFrost (c : Settings) : Frost where
  zones := c.zone.map fun z => restartZone z.enabled
  sensors := ⟨.reset, .reset, .reset, .reset⟩
  air := .reset
  circ := .reset
  realGood := .silent

/-- What the sensors read: the simulated temperatures in COMMISSION, the bus otherwise (R148 c). -/
def readBus (e : Env) : Bus := if e.sys.mode = .commission then e.sys.sim.temps else e.pins.bus

/-- One read of the five sensors (R133). DESIGN CHOICE (log 64): Z1, Z2, Z3, Z4, then the air sensor, each with all that follows
from it before the next; R133 gives no order. -/
def readSigs (b : Bus) : List Sig := allZones.map (fun z => Sig.zoneRead z (b.zone z)) ++ [.airRead b.air]

/-- The last good real read of a sensor taken in COMMISSION (R148). -/
def lastGood (old new : Option Int) : Option Int := (goodRead new).or old

/-- The real reads of COMMISSION remembered (R148). DESIGN CHOICE (log 79): those of the air sensor too, which R133 reads in every
mode, while R148 c and R184 name the zone sensors alone. -/
def rememberReal (b : Bus) (f : Frost) : Frost :=
  let o := f.realGood
  { f with realGood := ⟨lastGood o.z1 b.z1, lastGood o.z2 b.z2, lastGood o.z3 b.z3, lastGood o.z4 b.z4,
                        lastGood o.air b.air⟩ }

/-- A real read that returns the part to SETUP (R184): good, of an enabled zone, below its on_below. -/
def coldRead (e : Env) (b : Bus) : Bool :=
  allZones.any fun z => (zoneSet e z).enabled && (goodRead (b.zone z)).any (· < (zoneSet e z).onBelow)

end Sys2Proof.Machine
end

