-- ==== Sys2Proof/Machine/Cascade.lean ====
section
/-! DEFINITION. The carrying out of hand-overs inside one event: the owners' part of a grant or a revocation, each hand-over
to the block it names (`handle`), the first first, each with all that follows from it before the next (`settle`). -/

namespace Sys2Proof.Machine

/-! ### Grants and revocations (R42) -/

/-- A grant or a revocation taken by the owner of its record: the contactor opened, the heater turned on or off (R42). -/
def ownerTakes (e : Env) (a : Award) (P : Plant) : Plant × List Sig :=
  match a with
  | .granted (.pump _) => grantedPump P
  | .granted (.zone z) => grantedZone z P
  | .revoked (.pump p) => revokedPump e p P
  | .revoked (.zone z) => revokedZone e z P

/-- The grants and revocations of one walk or one cap lowering taken by their owners as they are made, the first first; what
the owners hand on in turn comes after the last of them, in the same order (R42, log 4). -/
def ownersTake (e : Env) : List Award → Plant → Plant × List Sig
  | [], P => (P, [])
  | a :: as, P =>
    let x := ownerTakes e a P
    let y := ownersTake e as x.1
    (y.1, x.2 ++ y.2)

/-- A grant walk (R40), its revocations and grants handed to the owners in order (R42). -/
def handleWalk (e : Env) (P : Plant) : Plant × List Sig :=
  let r := walk e.cfg.set P.load
  ownersTake e r.2 (P.setLoad r.1)

/-- The cap in force set again for the tariff state (R33): the revocations of a lowering handed in the order taken (R43), then
what follows a change. DESIGN CHOICE (log 86): what the owners of the revoked loads hand on (a guard evaluation, the exit of a
circulation, a start check; R52, R60, R63, R68), with all that follows from it, comes before the lowering's own grant walk; R43 and R63
do not order the two. -/
def handleSetCap (e : Env) (P : Plant) : Plant × List Sig :=
  let r := P.load.setCap e.cfg.set (e.clock.tariff == .cheap)
  let x := ownersTake e r.2 (P.setLoad r.1)
  (x.1, x.2 ++ capSigs P.load r.1)

/-! ### A guard change (R122 to R124) -/

/-- A new state and reason of the guard handed on (R122, R124): the STATUS notice is queued and a circulation under way ends at
once, on the state of this change; then what the fill unit and the frost unit do on it. DESIGN CHOICE (log 5): in this order; the
order among the blocks does not matter by R122. A change of the reason alone makes a plan evaluation too (R94 f, log 57). -/
def guardHanded (e : Env) (P : Plant) : Plant × List Sig :=
  let x := circGuardEnd e (handleStatus .guard e P).1
  (x.1, (if P.guard.core.state.shutting then [Sig.endBoost .guard] else []) ++ [Sig.planEval] ++ x.2)

/-- A guard evaluation (R118, R122 to R124). At a guard change the new state, reason and limit are handed on; the call evaluation
that the limit brings comes first, then the valves, then what the new state brings in the fill and frost units. -/
def handleGuardEval (e : Env) (P : Plant) : Plant × List Sig :=
  let g := P.guard.core
  let x := chooseGuard e g
  if x = (g.state, g.reason) then (P, [])
  else
    let y := guardHanded e (P.setGuard { P.guard with core := g.become e x.1 x.2, age := 0, ageSecs := 0 })
    let z := handleLimit (guardLimit x.1 x.2) y.1
    (z.1, z.2 ++ guardValveSigs e g x.1 ++ y.2)

/-! ### One hand-over -/

/-- One hand-over carried out by the block it goes to. -/
def handle (g : Sig) (e : Env) (P : Plant) : Plant × List Sig :=
  match g with
  | .cond k b => handleCond k b e P
  | .status ev => handleStatus ev e P
  | .claim l c => handleClaim l c e P
  | .classChange l c => handleClassChange l c e P
  | .release l => handleRelease l e P
  | .walk => handleWalk e P
  | .setCap => handleSetCap e P
  | .callEval => handleCallEval P
  | .callUncalls => handleUncalls e P
  | .rotationCheck => handleRotationCheck P
  | .callServe => handleServe e P
  | .callCalls => handleCalls e P
  | .inletRequest => handleInletRequest P
  | .startCheck => handleStartCheck e P
  | .pumpState => handlePumpState P
  | .dutyChanged => handleDutyChanged P
  | .rotationRequest => handleRotationRequest P
  | .limit l => handleLimit l P
  | .circDemand on => handleCircDemand on P
  | .pumpsWindowStart => handlePumpsWindowStart P
  | .pumpsWindowEnd => handlePumpsWindowEnd P
  | .inletMoved => handleInletMoved e P
  | .inletAskAgain => handleAskAgain P
  | .guardAsk v t => handleGuardAsk v t e P
  | .guardRelease v => handleGuardRelease v e P
  | .pumpsAsk q => handlePumpsAsk q e P
  | .pumpsRelease => handlePumpsRelease P
  | .guardTests => handleGuardTests e P
  | .fastTest => handleFastTest e P
  | .guardEval => handleGuardEval e P
  | .overChange => handleOverChange e P
  | .autoClearJudge => handleAutoClearJudge e P
  | .boostTest => handleBoostTest e P
  | .fillPublication qc => handleFillPublication qc e P
  | .planEval => handlePlanEval e P
  | .planNotice r => handlePlanNotice r P
  | .reserveJudge => handleReserveJudge e P
  | .endBoost r => handleEndBoost r P
  | .fillWindowStart => handleFillWindowStart e P
  | .fillWindowEnd => handleFillWindowEnd e P
  | .zoneRead z a => handleZoneRead z a e P
  | .airRead a => handleAirRead a P
  | .freezeAlarm => handleCond .freeze (freezePresent P) e P
  | .zoneJudge z => handleZoneJudge z e P
  | .zoneClass z => handleZoneClass z e P
  | .zoneDuty z => handleZoneDuty z e P
  | .circTest => handleCircTest e P
  | .circRetry => handleCircRetry e P
  | .circRefuse r => handleCircRefuse r e P
  | .circEntry => handleCircEntry P
  | .circExit => handleCircExit P
  | .telemPublication => handleTelemPublication e P

/-! ### The chain of one event -/

/-- A hand-over as the event has brought things: a PLAN notice carries the end of the boost that has just ended (R113). -/
def Sig.informed (ended : Option BoostEnd) : Sig → Sig
  | .planNotice none => .planNotice ended
  | g => g

/-- The end of a boost that the event has brought so far. -/
def Sig.endSeen (ended : Option BoostEnd) : Sig → Option BoostEnd
  | .planNotice (some r) => some r
  | _ => ended

/-- The hand-overs of one event carried out, the first first, each with what follows from it; `ended` is the boost end that
the event has brought so far. DESIGN CHOICE (log 4): at most `fuel` of them; a chain cut there is marked. -/
def settleFrom (e : Env) : Nat → Option BoostEnd → List Sig → Plant → Plant
  | _, _, [], P => P
  | 0, _, _ :: _, P => { P with cut := true }
  | fuel + 1, ended, g :: gs, P =>
    let x := handle (g.informed ended) e P
    settleFrom e fuel (g.endSeen ended) (x.2 ++ gs) x.1

/-- The hand-overs of an event from its beginning. -/
def settle (e : Env) (fuel : Nat) (gs : List Sig) (P : Plant) : Plant := settleFrom e fuel none gs P

/-- The hand-overs that an event makes, carried out on the state. -/
def State.settle (s : State) (gs : List Sig) : State :=
  s.setPlant (Machine.settle s.env Config.cascadeBound gs s.plant)

/-- A block's own action on the plant, with the hand-overs it makes, on the state. -/
def State.act (s : State) (x : Plant × List Sig) : State :=
  s.setPlant (Machine.settle s.env Config.cascadeBound x.2 x.1)

end Sys2Proof.Machine
end

