-- ==== Sys2Proof/Machine/SettingTable.lean ====
section
/-! DEFINITION. The settings of section 12.7 as a table: ids, classes, ranges in force, reading and writing one of them, the
orders among them and the re-clamping of others. -/

namespace Sys2Proof.Machine

/-- The settings that WRITE SETTING and READ SETTING reach (section 12.7). -/
inductive SettingId where
  | offsetTrim | span | gainTrim | datum | lTop | hLow | hOver | floatTol
  | source | nominal
  | capCheap | capDear | pumpRating (p : Pump) | zoneRating (z : Zone)
  | pumpsFitted | delivery (p : Pump) | feedbackTime | startSpacing | restTime
  | stepRate | pOpen | pFill | pDump
  | fillTarget | margin | initialDraw | refillBand | reserveLevel | reserveBand | blindLimit | litresPerPulse
  | lHigh | lHh | lOver | hysteresis | tWarn
  | enabled (z : Zone) | onBelow (z : Zone) | offAbove (z : Zone) | critical (z : Zone)
  | circBelow | stagnationLimit | circHeadroom | circRunTime
  | relayThreshold
  | trendInterval | deadband | reportPeriod
  | lineRate | supervision
deriving DecidableEq, Repr

/-- The id of a setting (section 12.7). -/
def SettingId.number : SettingId → Nat
  | .offsetTrim => 101 | .span => 102 | .gainTrim => 103 | .datum => 104 | .lTop => 105 | .hLow => 106 | .hOver => 107
  | .floatTol => 108 | .source => 201 | .nominal => 202 | .capCheap => 301 | .capDear => 302
  | .pumpRating p => 302 + pumpNumber p | .zoneRating z => 305 + zoneNumber z
  | .pumpsFitted => 401 | .delivery p => 401 + pumpNumber p | .feedbackTime => 405 | .startSpacing => 406
  | .restTime => 407 | .stepRate => 501 | .pOpen => 502 | .pFill => 503 | .pDump => 504
  | .fillTarget => 601 | .margin => 602 | .initialDraw => 603 | .refillBand => 604 | .reserveLevel => 605
  | .reserveBand => 606 | .blindLimit => 607 | .litresPerPulse => 608
  | .lHigh => 701 | .lHh => 702 | .lOver => 703 | .hysteresis => 704 | .tWarn => 705
  | .enabled z => 801 + 10 * zoneNumber z | .onBelow z => 802 + 10 * zoneNumber z
  | .offAbove z => 803 + 10 * zoneNumber z | .critical z => 804 + 10 * zoneNumber z
  | .circBelow => 851 | .stagnationLimit => 852 | .circHeadroom => 853 | .circRunTime => 854
  | .relayThreshold => 901 | .trendInterval => 1001 | .deadband => 1002 | .reportPeriod => 1003
  | .lineRate => 1101 | .supervision => 1102

/-- The settings of one zone. -/
def zoneSettings (z : Zone) : List SettingId := [.enabled z, .onBelow z, .offAbove z, .critical z]

/-- Every setting, in id order. -/
def allSettings : List SettingId :=
  List.flatten [
    [.offsetTrim, .span, .gainTrim, .datum, .lTop, .hLow, .hOver, .floatTol, .source, .nominal, .capCheap, .capDear],
    allPumps.map SettingId.pumpRating, allZones.map SettingId.zoneRating, [.pumpsFitted], allPumps.map SettingId.delivery,
    [.feedbackTime, .startSpacing, .restTime, .stepRate, .pOpen, .pFill, .pDump, .fillTarget, .margin, .initialDraw,
     .refillBand, .reserveLevel, .reserveBand, .blindLimit, .litresPerPulse, .lHigh, .lHh, .lOver, .hysteresis, .tWarn],
    allZones.flatMap zoneSettings,
    [.circBelow, .stagnationLimit, .circHeadroom, .circRunTime, .relayThreshold, .trendInterval, .deadband, .reportPeriod,
     .lineRate, .supervision]]

/-- The setting of an id; id 100, the geometry table, names none (R185 a). -/
def settingOf (n : Nat) : Option SettingId := allSettings.find? fun i => i.number == n

/-- A structural setting (section 12.7, class S). -/
def SettingId.structural : SettingId → Bool
  | .source | .nominal | .capCheap | .capDear => false
  | .fillTarget | .margin | .refillBand | .reserveLevel | .reserveBand | .blindLimit => false
  | .hysteresis => false
  | .enabled _ | .onBelow _ | .offAbove _ | .critical _ => false
  | .circBelow | .stagnationLimit | .circHeadroom | .circRunTime => false
  | .relayThreshold | .trendInterval | .deadband | .reportPeriod | .supervision => false
  | _ => true

/-- The range in force of a setting (section 12.7). The supervision period is 0 or 10..3600 (R179). -/
def rangeOf (c : Settings) : SettingId → Int × Int
  | .offsetTrim => (-200, 200) | .span => (1000, 30000) | .gainTrim => (-1000, 1000) | .datum => (-2000, 2000)
  | .lTop => (1000, 20000) | .hLow => (100, 10000) | .hOver => (1000, 20000) | .floatTol => (50, 2000)
  | .source => (0, 2) | .nominal => (60, 1440)
  | .capCheap | .capDear => (0, 9999) | .pumpRating _ | .zoneRating _ => (1, 9999)
  | .pumpsFitted => (1, 3) | .delivery _ => (50, 20000) | .feedbackTime => (2, 30) | .startSpacing => (10, 300)
  | .restTime => (60, 1800) | .stepRate => (10, 200) | .pOpen => (500, 1000) | .pFill => (c.pOpen, 1000)
  | .pDump => (100, 1000) | .fillTarget => (1000, (c.lHigh : Int) - 100) | .margin => (0, 120)
  | .initialDraw => (0, 65535) | .refillBand => (100, 2000) | .reserveLevel => (0, (c.fillTarget : Int) - 500)
  | .reserveBand => (200, 3000) | .blindLimit => (5, 240) | .litresPerPulse => (1, 1000)
  | .lHigh | .lHh | .lOver => (1600, 20000) | .hysteresis => (50, 1000) | .tWarn => (5, 120)
  | .enabled _ => (0, 1) | .onBelow _ => (-100, 100)
  | .offAbove z => ((c.zone.get z).onBelow + 10, 150) | .critical z => (-200, (c.zone.get z).onBelow - 5)
  | .circBelow => (-50, 50) | .stagnationLimit => (10, 600) | .circHeadroom => (100, 3000) | .circRunTime => (1, 30)
  | .relayThreshold => (1, 8) | .trendInterval => (10, 3600) | .deadband => (0, 2000) | .reportPeriod => (60, 86400)
  | .lineRate => (0, 3) | .supervision => (0, 3600)

/-- A source setting's code and back (R27). -/
def sourceOf (n : Nat) : Source := match n with | 0 => .calendar | 1 => .line | _ => .lineElseCalendar

/-- The working value of a setting. -/
def getSetting (c : Settings) : SettingId → Int
  | .offsetTrim => c.offsetTrim | .span => c.span | .gainTrim => c.gainTrim | .datum => c.datum | .lTop => c.lTop
  | .hLow => c.hLow | .hOver => c.hOver | .floatTol => c.floatTol | .source => c.source.code | .nominal => c.nominal
  | .capCheap => c.capCheap | .capDear => c.capDear | .pumpRating p => c.pumpRating.get p
  | .zoneRating z => c.zoneRating.get z | .pumpsFitted => c.pumpsFitted | .delivery p => c.delivery.get p
  | .feedbackTime => c.feedbackTime | .startSpacing => c.startSpacing | .restTime => c.restTime
  | .stepRate => c.stepRate | .pOpen => c.pOpen | .pFill => c.pFill | .pDump => c.pDump
  | .fillTarget => c.fillTarget | .margin => c.margin | .initialDraw => c.initialDraw | .refillBand => c.refillBand
  | .reserveLevel => c.reserveLevel | .reserveBand => c.reserveBand | .blindLimit => c.blindLimit
  | .litresPerPulse => c.litresPerPulse | .lHigh => c.lHigh | .lHh => c.lHh | .lOver => c.lOver
  | .hysteresis => c.hysteresis | .tWarn => c.tWarn | .enabled z => if (c.zone.get z).enabled then 1 else 0
  | .onBelow z => (c.zone.get z).onBelow | .offAbove z => (c.zone.get z).offAbove
  | .critical z => (c.zone.get z).critical | .circBelow => c.circBelow | .stagnationLimit => c.stagnationLimit
  | .circHeadroom => c.circHeadroom | .circRunTime => c.circRunTime | .relayThreshold => c.relayThreshold
  | .trendInterval => c.trendInterval | .deadband => c.deadband | .reportPeriod => c.reportPeriod
  | .lineRate => c.lineRate | .supervision => c.supervision

/-- A zone's settings replaced. -/
def Settings.setZone (c : Settings) (z : Zone) (x : ZoneSettings) : Settings := { c with zone := c.zone.set z x }

/-- A setting given a value. -/
def putSetting (c : Settings) (i : SettingId) (v : Int) : Settings :=
  let n := v.toNat
  match i with
  | .offsetTrim => { c with offsetTrim := v } | .span => { c with span := v } | .gainTrim => { c with gainTrim := v }
  | .datum => { c with datum := v } | .lTop => { c with lTop := n } | .hLow => { c with hLow := n }
  | .hOver => { c with hOver := n } | .floatTol => { c with floatTol := n } | .source => { c with source := sourceOf n }
  | .nominal => { c with nominal := n } | .capCheap => { c with capCheap := n } | .capDear => { c with capDear := n }
  | .pumpRating p => { c with pumpRating := c.pumpRating.set p n }
  | .zoneRating z => { c with zoneRating := c.zoneRating.set z n }
  | .pumpsFitted => { c with pumpsFitted := n } | .delivery p => { c with delivery := c.delivery.set p n }
  | .feedbackTime => { c with feedbackTime := n } | .startSpacing => { c with startSpacing := n }
  | .restTime => { c with restTime := n } | .stepRate => { c with stepRate := n } | .pOpen => { c with pOpen := n }
  | .pFill => { c with pFill := n } | .pDump => { c with pDump := n } | .fillTarget => { c with fillTarget := n }
  | .margin => { c with margin := n } | .initialDraw => { c with initialDraw := n }
  | .refillBand => { c with refillBand := n } | .reserveLevel => { c with reserveLevel := n }
  | .reserveBand => { c with reserveBand := n } | .blindLimit => { c with blindLimit := n }
  | .litresPerPulse => { c with litresPerPulse := n } | .lHigh => { c with lHigh := n } | .lHh => { c with lHh := n }
  | .lOver => { c with lOver := n } | .hysteresis => { c with hysteresis := n } | .tWarn => { c with tWarn := n }
  | .enabled z => c.setZone z { c.zone.get z with enabled := n == 1 }
  | .onBelow z => c.setZone z { c.zone.get z with onBelow := v }
  | .offAbove z => c.setZone z { c.zone.get z with offAbove := v }
  | .critical z => c.setZone z { c.zone.get z with critical := v }
  | .circBelow => { c with circBelow := v } | .stagnationLimit => { c with stagnationLimit := n }
  | .circHeadroom => { c with circHeadroom := n } | .circRunTime => { c with circRunTime := n }
  | .relayThreshold => { c with relayThreshold := n } | .trendInterval => { c with trendInterval := n }
  | .deadband => { c with deadband := n } | .reportPeriod => { c with reportPeriod := n }
  | .lineRate => { c with lineRate := n } | .supervision => { c with supervision := n }

/-- The value taken for a value given: brought into the range, a supervision period of 1..9 to 10 (R179). -/
def takenValue (c : Settings) (i : SettingId) (v : Int) : Int :=
  let w := clampInt (rangeOf c i).1 (rangeOf c i).2 v
  if i = .supervision && 0 < w && w < 10 then 10 else w

/-- The order of the guard's setpoints under the tank top (R116). -/
def setpointsOrdered (c : Settings) : Bool := c.lHigh < c.lHh && c.lHh < c.lOver && c.lOver ≤ c.lTop

/-- A setting whose write is checked against the order (R3, R116). -/
def SettingId.ordered : SettingId → Bool
  | .lTop | .lHigh | .lHh | .lOver => true
  | _ => false

/-- The other settings that a write of one re-clamps, in the order R75, R92 and R135 give. -/
def dependents : SettingId → List SettingId
  | .pOpen => [.pFill]
  | .fillTarget => [.reserveLevel]
  | .lHigh => [.fillTarget, .reserveLevel]
  | .onBelow z => [.offAbove z, .critical z]
  | _ => []

/-- Settings re-clamped into their ranges in force, with those that moved (R75, R92, R135). -/
def reclamp : List SettingId → Settings → Settings × List SettingId
  | [], c => (c, [])
  | i :: is, c =>
    let v := takenValue c i (getSetting c i)
    if v = getSetting c i then reclamp is c
    else
      let r := reclamp is (putSetting c i v)
      (r.1, i :: r.2)

/-- An id and a value, as WRITE SETTING's reply carries them (R181). -/
def settingBytes (c : Settings) (i : SettingId) : List Byte := u16 i.number ++ s32 (getSetting c i)

end Sys2Proof.Machine
end

