-- ==== Sys2Proof/Machine/Store.lean ====
section
/-! DEFINITION. The settings store (R186): its content as bytes, the store check, and the store after a commit. -/

namespace Sys2Proof.Machine

/-- A program's bytes: event, qualifier, threshold, freeze, start after, as READ COUNTERS gives them (R171).
DESIGN CHOICE (log 12): a start after of none is 0, the code of the value that R169 lists first (R181 c), and not 0xFF (R181 b). -/
def programBytes (p : Program) : List Byte :=
  u8 p.event.code ++ u8 p.qualifier.code ++ u32 p.threshold ++ mark p.freeze ++
    u8 (match p.startAfter with | some j => j.number | none => 0)

/-- The breakpoints of a geometry table as a list of bytes, as READ GEOMETRY gives them (R17). -/
def breakpointBytes (bs : List Breakpoint) : List Byte := listBytes (fun b : Breakpoint => u16 b.level ++ u32 b.volume) bs

/-- The windows of a tariff calendar as a list of bytes, as READ TARIFF WINDOWS gives them (R25). -/
def windowBytes (ws : List Window) : List Byte := listBytes (fun w : Window => u16 w.start ++ u16 w.stop) ws

/-- The bytes of the store that its check seals. DESIGN CHOICE (log 53): every setting in id order, four bytes each, then the
geometry table (a count of 0 when absent), the windows, and the programs; the spec gives no layout. -/
def storeBytes (w : Working) : List Byte :=
  allSettings.flatMap (fun i => s32 (getSetting w.set i)) ++ breakpointBytes (w.geometry.getD []) ++
    windowBytes w.windows ++ allCounters.flatMap (fun i => programBytes (w.programs.get i))

/-- The store check of a content, computed as the link check is (R186, R175). -/
def storeCheck (w : Working) : BitVec 16 := crc (storeBytes w)

/-- A content sealed by its check, as a commit leaves it whose read-back passes (R186 a). -/
def Store.seal (w : Working) : Store := ⟨w, storeCheck w⟩

/-- A store whose check fails, as a failed or broken-off commit leaves it (R186 b, R187 a; DEDUCED, log 11). DESIGN CHOICE (log
53): the content last written under the complement of its check, since the spec does not say which bytes fail. -/
def Store.broken (w : Working) : Store := ⟨w, ~~~ (storeCheck w)⟩

/-- The store's check passes (R187 a). -/
def Store.passes (s : Store) : Bool := s.check == storeCheck s.content

/-- What a full restart loads from the store: its content where the check passes (R187 a). -/
def Store.loadable (s : Store) : Option Working := if s.passes then some s.content else none

end Sys2Proof.Machine
end

