-- ==== Sys2Proof/Machine/Modes.lean ====
section
/-! DEFINITION. The mode and store unit's own work (Part 12): the RUN-entry checks, a change of mode with what every block
does at it, and the four kinds of restart. -/

namespace Sys2Proof.Machine

/-! ### RUN-entry checks (R183) -/

/-- The last level of the geometry table. -/
def lastLevel (bs : List Breakpoint) : Nat := match bs.getLast? with | some b => b.level | none => 0

/-- The RUN-entry checks pass (R183 a, b). -/
def runEntry (w : Working) : Bool :=
  match w.geometry with
  | some bs => w.set.lOver ≤ lastLevel bs
  | none => false

/-- The id of the first failing RUN-entry check, or 0 (R183, R188). -/
def failingCheck (w : Working) : Nat := if runEntry w then 0 else 100

/-! ### Entering COMMISSION (R19, R26, R72 c, R90 a, R131 a, R148 c, R184) -/

/-- The simulated inputs at entry: each takes the real value, the inflow rate 0 (R184). DESIGN CHOICE (log 76): the running total of
simulated litres starts from 0. -/
def simulatedAtEntry (s : State) : Simulated where
  raw := s.env.level.transducer
  low := s.env.level.low.reported
  overFloat := s.env.level.overFloat.reported
  temps := ⟨s.plant.frost.sensors.z1.reading, s.plant.frost.sensors.z2.reading, s.plant.frost.sensors.z3.reading,
            s.plant.frost.sensors.z4.reading, s.plant.frost.air.reading⟩
  tariff := s.env.clock.line
  inflowRate := 0
  total60 := 0

/-- The environment in COMMISSION at entry: every simulated contact agrees with its reported state, so no debounce runs. -/
def envEntersCommission (s : State) : Env :=
  { s.env with
    sys := { s.env.sys with mode := .commission, sim := simulatedAtEntry s }
    level := { s.env.level with low := s.env.level.low.see s.env.level.low.reported
                                overFloat := s.env.level.overFloat.see s.env.level.overFloat.reported }
    clock := s.env.clock.seeLine s.env.clock.line }

/-- A valve at entry: its motion halted, its operation ended with STOPPED, its standing saved (R90 a). -/
def valveEntersCommission (v : ValveId) (P : Plant) : Plant :=
  let P := finishOp .stopped v (P.setValve v (P.valves.get v).halted)
  P.setValve v (P.valves.get v).enterCommission

/-- A guard target that differs from the valve's position is driven again (R90 a, c). -/
def redrive (v : ValveId) (hold : Option Nat) (r : Valve) : List Sig :=
  match hold with
  | some t => if r.owner = .guard && r.position ≠ some t then [Sig.guardAsk v t] else []
  | none => []

/-- The plant at entry: simulated feedback takes the real contacts (R72 c), the valves halt (R90 a), the guard saves its
record (R131 a), the real reads of COMMISSION begin (R148). DESIGN CHOICE (log 62): the inlet halts first and queues its DONE
STOPPED, then the dump, and both before the evaluations of the change of mode; R90 gives no order. -/
def plantEntersCommission (s : State) : Plant :=
  let P := valveEntersCommission .dump (valveEntersCommission .inlet s.plant)
  let fb := s.env.pins.feedback
  let u := P.pumps
  let P := P.setPumps { u with recs := ⟨{ u.recs.p1 with simFeedback := fb.p1 }, { u.recs.p2 with simFeedback := fb.p2 },
                                         { u.recs.p3 with simFeedback := fb.p3 }⟩ }
  let P := P.setGuard { P.guard with saved := some P.guard.core }
  P.setFrost { P.frost with realGood := .silent }

/-- What the entry hands on before the calls, the plan and the guard's evaluation (log 62): the inlet's change, the dump's, then the
guard's targets driven again, the inlet's first. -/
def commissionEntrySigs (old new : Plant) : List Sig :=
  valveSigs .inlet old.valves.inlet new.valves.inlet ++ valveSigs .dump old.valves.dump new.valves.dump ++
    redrive .inlet new.guard.core.inletHold new.valves.inlet ++ redrive .dump new.guard.core.dumpHold new.valves.dump

/-! ### Leaving COMMISSION (R19, R26, R72 c, R90 c, R131 b, R148) -/

/-- The environment in SETUP at exit: the real contacts read again, with their debounce. DESIGN CHOICE (log 54): a wait that runs on a
simulated contact goes on with its count where the real contact stands in the same changed state; R19 and R26 do not say that it begins
afresh. DESIGN CHOICE (log 68): a contact that stands as simulation has it reported makes no wait and no change, so an OVER float WET in
both trips nothing until it has dried and is wetted again (R12, R125, R131). -/
def envLeavesCommission (e : Env) : Env :=
  { e with
    sys := { e.sys with mode := .setup, sim := .reset }
    level := { e.level with low := e.level.low.see e.pins.low, overFloat := e.level.overFloat.see e.pins.overFloat }
    clock := e.clock.seeLine e.pins.tariff }

/-- A valve at exit, the guard having restored its holds first (R90 c, R131 b, log 24): the saved standing, held by the
guard exactly where the guard held it at entry. -/
def valveLeavesCommission (hold : Option Nat) (r : Valve) : Valve :=
  { r.leaveCommission with owner := if hold.isSome then .guard else .none, waiting := none }

/-- The guard's record at exit (R131 b). DESIGN CHOICE (log 55): its age counts from the exit where the state or the reason restored is
another than the present one, since the present one is entered there (R117); otherwise it goes on. DESIGN CHOICE (log 69): a restored
TRIP with the dump asked for at P_dump and its run-on stopped gets no run-on where the OVER float is DRY now. DESIGN CHOICE (log 70): a
mark or latch restored as set hands no GUARD_SHUTS. -/
def guardLeavesCommission (g : Guard) : Guard :=
  let k := g.saved.getD g.core
  let same := k.state == g.core.state && k.reason == g.core.reason
  { g with core := k, saved := none, age := if same then g.age else 0, ageSecs := if same then g.ageSecs else 0 }

/-- The plant at exit, once the pumps are uncalled: guard and valves restored, the real feedback read from now on. DESIGN CHOICE
(log 54): the time of R66 c begins afresh at the exit, also where the simulated and the real feedback are both PRESENT. -/
def plantLeavesCommission (P : Plant) : Plant :=
  let g := guardLeavesCommission P.guard
  let P := P.setGuard g
  let P := P.setValves ⟨valveLeavesCommission g.core.inletHold P.valves.inlet,
                        valveLeavesCommission g.core.dumpHold P.valves.dump⟩
  P.setPumps { P.pumps with recs := P.pumps.recs.map fun r => { r with feedbackSecs := 0 } }

/-- What the exit hands on from the guard and the valves (R90 c, R131 b). DESIGN CHOICE: the restored auto-clear timer is judged again
by R129 at the next publication, float change or turn of silence, not in this event (log 55); a restored mark or latch hands
no GUARD_SHUTS, which R131 b does not list (log 70); the limit first, then HIGH, HIGH_HIGH
and OVERFLOW_TRIP, then the inlet and the dump (log 24). -/
def commissionExitSigs (old new : Plant) : List Sig :=
  let g := new.guard.core
  [.limit (guardLimit g.state g.reason), .cond .high g.high, .cond .highHigh g.highHigh, .cond .overflowTrip g.latch] ++
    valveSigs .inlet old.valves.inlet new.valves.inlet ++ valveSigs .dump old.valves.dump new.valves.dump ++
    redrive .inlet g.inletHold new.valves.inlet ++ redrive .dump g.dumpHold new.valves.dump

/-! ### A change of mode (R182) -/

/-- The fill unit's window record at a change of mode: no longer usable (R105). -/
def unusable (P : Plant) : Plant := P.setFill { P.fill with window := { P.fill.window with usable := false } }

/-- What circulation hands on at a change between SETUP and RUN (R148 b). -/
def circModeSigs (P : Plant) : Mode → List Sig
  | .setup => if circUnderWay P then [Sig.circRefuse .mode] else []
  | .run => if P.frost.circ.state = .refused then [Sig.circRetry] else []
  | .commission => []

/-- The mode set, no other part of the environment moved. -/
def State.withMode (s : State) (m : Mode) : State := s.setSys { s.env.sys with mode := m }

/-- What every block does at each change of mode, and the STATUS notice (R182). -/
def modeSigs (frost : List Sig) : List Sig := [.callEval, .planEval, .guardEval] ++ frost ++ [.status .mode]

/-- RUN to SETUP (R72 a, R110 d, R114, R148 b). DESIGN CHOICE (log 5): a boost ends before what every block does. -/
def runToSetup (s : State) : State :=
  let s := s.withMode .setup
  let s := s.setPlant (unusable s.plant)
  s.settle (.endBoost .mode :: modeSigs (circModeSigs s.plant .setup))

/-- SETUP to RUN (R114, R148 b). -/
def setupToRun (s : State) : State :=
  let s := s.withMode .run
  let s := s.setPlant (unusable s.plant)
  s.settle (modeSigs (circModeSigs s.plant .run))

/-- SETUP to COMMISSION. -/
def setupToCommission (s : State) : State :=
  let P := unusable (plantEntersCommission s)
  let s' := (s.setEnv (envEntersCommission s)).setPlant P
  s'.settle (commissionEntrySigs s.plant P ++ modeSigs [])

/-- COMMISSION to SETUP. DESIGN CHOICE (log 24): the frost unit gives up its simulated zones first, so that no heater command is left to
which a walk of the exit could hand HEAT_ENERGY, then the pumps are uncalled, then the guard and the valves take back what they saved,
then the zones are judged. -/
def commissionToSetup (s : State) : State :=
  let e := envLeavesCommission s.env
  let s := ((s.setEnv e).setPlant (frostLeavesCommission e (unusable s.plant))).settle (zoneReleaseSigs ++ [.callEval])
  let P := plantLeavesCommission s.plant
  (s.setPlant P).settle (commissionExitSigs s.plant P ++ modeSigs frostExitSigs)

/-- A change of mode that the table of R183 admits. -/
def changeMode (m : Mode) (s : State) : State :=
  match s.env.sys.mode, m with
  | .setup, .run => setupToRun s
  | .run, .setup => runToSetup s
  | .setup, .commission => setupToCommission s
  | .commission, .setup => commissionToSetup s
  | _, _ => s

/-! ### Restarts (R187) -/

/-- A full restart (section 3.2 of 00_scope.md). -/
def Cause.full : Cause → Bool
  | .cold | .dip => true
  | .pin | .request => false

/-- The settings store at a restart: part-written, so failing its check, when a commit was in flight (R187 a, log 11). -/
def storeAt (y : Sys) : Store := match y.commit with | some c => .broken c.snapshot | none => y.store

/-- The working settings after a restart (R187 a). -/
def cfgAfter (c : Cause) (e : Env) : Working := if c.full then (storeAt e.sys).loadable.getD .factory else e.cfg

/-- The store state after a restart (R187 a). -/
def storeStateAfter (c : Cause) (y : Sys) : StoreState :=
  if c.full then (if (storeAt y).passes then .loaded else .defaults)
  else if y.commit.isSome then .commitFailed else y.storeState

/-- The mode and store unit after a restart (R187 a, b). -/
def restartSys (c : Cause) (e : Env) : Sys where
  mode := if runEntry (cfgAfter c e) then .run else .setup
  cause := c
  storeState := storeStateAfter c e.sys
  store := storeAt e.sys
  commit := none
  sim := .reset

/-- The level unit after a restart (R20). DESIGN CHOICE (log 60): a warm restart before any publication since the restart before
it keeps the held level that stands, 0 where that restart was full; R20 does not say what was last published then. -/
def restartLevel (c : Cause) (e : Env) : Level :=
  let l := if c.full then 0 else e.level.shown
  { Level.reset with filtered := l, held := l, low := ⟨e.pins.low, none⟩, overFloat := ⟨e.pins.overFloat, none⟩ }

/-- The clock and tariff unit after a restart, its first evaluation made (R32). -/
def restartClock (c : Cause) (e : Env) : Clock :=
  let w := cfgAfter c e
  let k := if c.full then { Clock.reset with learned := w.set.nominal } else e.clock
  let k := { k with line := e.pins.tariff, lineDebounce := none, lineSecs := 0,
                    lineCheap := if e.pins.tariff = Contact.closed then some ⟨0, false⟩ else none }
  k.evaluated w

/-- The environment after a restart. -/
def restartEnv (c : Cause) (e : Env) : Env where
  cfg := cfgAfter c e
  level := restartLevel c e
  clock := restartClock c e
  sys := restartSys c e
  pins := e.pins

/-- A counter after a full restart (R173). -/
def restartCounter (p : Program) : Counter := ⟨0, false, p.startAfter.isNone, false⟩

/-- The telemetry unit after a restart (R173). -/
def restartTelem (c : Cause) (w : Working) (t : Telem) : Telem :=
  let fresh : PerCounter Counter :=
    ⟨restartCounter w.programs.c1, restartCounter w.programs.c2, restartCounter w.programs.c3,
     restartCounter w.programs.c4⟩
  { Telem.reset with
    queue := []
    log := if c.full || t.clear.isSome then [] else t.log
    pointCounter := if c.full then 0 else t.pointCounter
    counters := if c.full then fresh else t.counters }

/-- The trip latch that a restart finds kept (R132): a warm restart out of COMMISSION keeps the real one (log 21). -/
def latchKept (c : Cause) (g : Guard) : Bool := !c.full && (g.saved.getD g.core).latch

/-- The alarm table, counters and relay after a restart (R158). -/
def restartAlarms : Alarms := ⟨List.replicate 24 .reset, 1, 0⟩

/-- The acting and reporting blocks after a restart, before they take up their work. -/
def restartPlant (c : Cause) (w : Working) (P : Plant) : Plant where
  load := { LoadTable.reset with cap := w.set.capDear }
  pumps := restartPumps w.set (!c.full) P.pumps
  valves := if c.full then ⟨P.valves.inlet.cold, P.valves.dump.cold⟩ else ⟨P.valves.inlet.warm, P.valves.dump.warm⟩
  guard := { restartGuard (latchKept c P.guard) with
             core := { (restartGuard (latchKept c P.guard)).core with inletHold := some 0 } }
  fill := restartFill w.set (!c.full) P.fill
  frost := restartFrost w.set
  alarms := restartAlarms
  telem := restartTelem c w P.telem
  cut := P.cut

/-- The link unit after a restart (R180). -/
def restartLink (w : Working) : Link := { Link.reset with rate := w.set.lineRate }

/-- The conditions of the mode and store unit after a restart (R187 d). -/
def storeSigs (c : Cause) (y : Sys) : List Sig :=
  (if y.storeState = .loaded then [] else [Sig.cond .store true]) ++
  (if c = .dip then [Sig.cond .supplyDip true, Sig.cond .supplyDip false] else [])

/-- A window start, or TARIFF_UNKNOWN, at the first evaluation of the tariff state (R32). -/
def tariffSigs (t : Tariff) : List Sig :=
  match t with
  | .cheap => [.setCap, .fillWindowStart]
  | .dear => []
  | .unknown => [.cond .tariffUnknown true]

/-- The faults that a warm restart raises again (R73, R91, R158). DESIGN CHOICE (log 25): PUMP1_FAULT, PUMP2_FAULT, PUMP3_FAULT,
INLET_VALVE_FAULT, DUMP_VALVE_FAULT, in the order of their alarm ids; no rule orders them. -/
def keptFaultSigs (P : Plant) : List Sig :=
  ((allPumps.filter fun p => (P.pumps.recs.get p).state == .lockout).map fun p => Sig.cond (pumpFault p) true) ++
  (if P.valves.inlet.state = .fault then [Sig.cond .inletValveFault true] else []) ++
  (if P.valves.dump.state = .fault then [Sig.cond .dumpValveFault true] else [])

/-- The guard takes up its work (R132): the inlet asked for at 0, the latch judged. -/
def guardStartSigs (e : Env) (P : Plant) : List Sig :=
  .guardAsk .inlet 0 ::
    (if P.guard.core.latch then [.cond .overflowTrip true, .guardEval]
     else if e.level.overFloat.reported = .wet then [.overChange] else [.guardEval])

/-- The blocks take up their work, in an order the model fixes (R187 c, d, log 25). -/
def takeUpSigs (c : Cause) (e : Env) (P : Plant) : List Sig :=
  .status .restart :: (storeSigs c e.sys ++ tariffSigs e.clock.tariff ++ keptFaultSigs P ++ [.reserveJudge] ++
    guardStartSigs e P ++ readSigs (readBus e))

/-- A restart (R187). -/
def restart (c : Cause) (s : State) : State :=
  let e := restartEnv c s.env
  let P := restartPlant c e.cfg s.plant
  (⟨s.pending, e, P, restartLink e.cfg⟩ : State).settle (takeUpSigs c e P)

end Sys2Proof.Machine
end

