-- ==== Sys2Proof/Machine/Reply.lean ====
section
/-! DEFINITION. The generic handling of every request (R177): the request queue and the reply slot, the first checks, the
reply header, and the receiver's drops. -/

namespace Sys2Proof.Machine

/-- What a block answers: the result code, the content, and what follows the reply's last byte. -/
structure Answer where
  code : Code
  content : List Byte
  after : After
deriving DecidableEq, Repr

/-- An answer that nothing follows. -/
def Answer.of (c : Code) (content : List Byte) : Answer := ⟨c, content, .nothing⟩

/-- An answer without content. -/
def Answer.bare (c : Code) : Answer := .of c []

/-- The long operations' kinds (R167): COMMIT SETTINGS, MOVE VALVE, HOME VALVE, CLEAR TREND. -/
def isLong (k : Byte) : Bool := k == 0x16 || k == 0x28 || k == 0x29 || k == 0x34

/-- The reply to a request placed in the reply slot; the link flags cleared as its header is formed (R177). -/
def State.reply (s : State) (kind tag : Byte) (a : Answer) : State :=
  s.setLink { s.link with slot := some ⟨replyKind kind, tag, replyBody s.link.flags a.code a.content, a.after⟩,
                          flags := .clear }

/-- A request of a known kind carried out (R177 b to d). -/
def carryOut (kind tag : Byte) (answer : State → State × Answer) (s : State) : State :=
  if tag = 0 then s.reply kind tag (.bare .form)
  else if isLong kind && Config.doneLimit ≤ doneLoad s.env.sys s.plant then s.reply kind tag (.bare .busy)
  else (answer s).1.reply kind tag (answer s).2

/-- A request of an unknown kind carried out (R177 a). -/
def carryOutUnknown (kind tag : Byte) (s : State) : State := s.reply kind tag (.bare .unknown)

/-- A receiver fault (R176): its flag set, LINK_FAULTS handed. -/
def State.linkFault (s : State) (f : LinkFlag) : State :=
  let s := s.setLink { s.link with flags := s.link.flags.raise f }
  s.setPlant (s.plant.event s.env .linkFaults 1)

/-- A good request joins the tail of the request queue, or is dropped for OVERRUN when the queue is full (R176). -/
def State.enqueue (s : State) (r : Request) : State :=
  if s.link.queue.length < Config.requestPlaces then s.setLink { s.link with queue := s.link.queue ++ [r] }
  else s.linkFault .overrun

/-- The request queue and the reply slot are empty: a request is carried out in the event that brings it (R177). -/
def State.clearToAnswer (s : State) : Bool := s.link.slot.isNone && s.link.queue.isEmpty

/-- A request command (log 3): carried out in this event when nothing stands before it, or in its turn otherwise. -/
def submit (kind tag : Byte) (body : List Byte) (answer : State → State × Answer) (s : State) :
    Host.Outcome State Fault Refusal :=
  .next (if s.clearToAnswer then carryOut kind tag answer s else s.enqueue ⟨kind, tag, body⟩)

/-! ### Frequent answers -/

/-- A request whose body must be empty and which is answered OK, changing nothing (the READ requests). -/
def readRequest (body : List Byte) (content : State → List Byte) (s : State) : State × Answer :=
  if body.isEmpty then (s, .of .ok (content s)) else (s, .bare .form)

/-- A commit is in flight (R186). -/
def State.committing (s : State) : Bool := s.env.sys.commit.isSome

end Sys2Proof.Machine
end

