-- ==== Sys2Proof/Machine/Settings.lean ====
section
/-! DEFINITION. WRITE SETTING and READ SETTING (Part 12): what an accepted write brings about in the owning block, and the
requests themselves. -/

namespace Sys2Proof.Machine

/-! ### What an accepted write brings about -/

/-- The zone that an Enabled write concerns changes its standing (R141). -/
def zoneEnableSigs (s : State) (old : Settings) (z : Zone) : State :=
  let now := (s.env.cfg.set.zone.get z).enabled
  if now = (old.zone.get z).enabled then s
  else if now then s.act (enableZone z s.plant)
  else s.act (disableZone z s.env s.plant)

/-- The tariff state evaluated again (R27), with a tariff change handed on (R28). -/
def State.evaluateTariff (s : State) : State :=
  let old := s.env.clock.tariff
  let c := s.env.clock.evaluated s.env.cfg
  (s.setClock c).settle (tariffChangeSigs old c.tariff)

/-- A write of the source setting (R27, R30). DESIGN CHOICE (log 74): the learned length takes the nominal first, and the evaluation of
the tariff state, with all that follows from it, finds it so; R27 and R30 give no order. -/
def State.sourceWritten (s : State) (old : Settings) : State :=
  let s := if s.env.cfg.set.source = old.source then s
           else s.setClock { s.env.clock with learned := s.env.cfg.set.nominal }
  s.evaluateTariff

/-- A publication of the estimate as it stands (R9 c, d). -/
def State.republish (s : State) : State :=
  let s := s.setLevel (s.env.level.publish s.env.cfg.set)
  s.settle (publicationSigs s.env false)

/-- A write of L_top (R3, R9 c): a lowering carried to the level unit, and published where the published level fell. -/
def State.topWritten (s : State) : State :=
  let l := s.env.level.shown
  let s := s.setLevel (s.env.level.lowerTop s.env.cfg.set.lTop)
  if s.env.level.published && s.env.level.shown ≠ l then s.republish else s

/-- A pump whose fitting a write of pumps fitted changes (R72 a). -/
def State.refit (s : State) (old : Settings) (p : Pump) : State :=
  match fitted old p, fitted s.env.cfg.set p with
  | false, true => s.act (enlistPump p s.plant)
  | true, false =>
    let was := (s.plant.pumps.recs.get p).state
    let x := retirePump s.env p .off s.plant
    s.act (x.1, x.2 ++ (if was = .lockout then [Sig.cond (pumpFault p) false] else []))
  | _, _ => s

/-- The pumps whose rest a newly lowered rest time ends (R53, R64). -/
def restsOver (s : State) : List Pump :=
  allPumps.filter fun p =>
    let r := s.plant.pumps.recs.get p
    fitted s.env.cfg.set p && r.state == .resting && s.env.cfg.set.restTime ≤ r.timer

/-- Rests ended one after another. -/
def State.endRests : List Pump → State → State
  | [], s => s
  | p :: ps, s => State.endRests ps (s.act (endRest p s.plant))

/-- The load that a rating write concerns. -/
def ratingLoad : SettingId → Option Load
  | .pumpRating p => some (.pump p)
  | .zoneRating z => some (.zone z)
  | _ => none

/-- A rating write that would carry a granted load over the cap revokes that load first (R45 c): its owner takes the
revocation under the old rating, and what follows from it is handed on once the new rating stands (log 40), before the write's own grant
walk (log 86). -/
def beforeRating (s : State) (new : Settings) (l : Load) : Plant × List Sig :=
  if (s.plant.load.claim l).isGranted && s.plant.load.cap < grantedSum new s.plant.load then
    ownerTakes s.env (.revoked l) (s.plant.setLoad (s.plant.load.revoke l))
  else (s.plant, [])

/-- What a write does to the load it concerns before the new value stands, with what it hands on. -/
def beforeWrite (s : State) (new : Settings) (i : SettingId) : Plant × List Sig :=
  match ratingLoad i with
  | some l => beforeRating s new l
  | none => (s.plant, [])

/-- The guard's evaluation after a write of one of its settings, against the level last published (R116). -/
def guardWriteSigs : List Sig := [.guardTests, .autoClearJudge, .guardEval]

/-- The boost record with its level lowered to what L_high admits (R92 b, R109). -/
def lowerBoost (c : Settings) (b : Option Boost) : Option Boost := b.map fun x => ⟨min x.level (c.lHigh - 100), x.k⟩

/-- A write of L_high (R92 b, R116): the guard evaluates; the plan is evaluated where a re-clamp was made, the reserve judged where the
reserve level moved (R94 d, R107), and a boost level that was lowered is told in a PLAN notice (R113). DESIGN CHOICE (log 6): the
guard's tests and evaluation before the plan, the plan before the reserve; no rule orders them. -/
def State.highWritten (s : State) (old : Settings) : State :=
  let c := s.env.cfg.set
  let f := s.plant.fill
  let boost := lowerBoost c f.boost
  let s := s.setPlant (s.plant.setFill { f with boost := boost })
  s.settle (guardWriteSigs ++
    (if c.fillTarget ≠ old.fillTarget || c.reserveLevel ≠ old.reserveLevel || boost ≠ f.boost then [.planEval] else []) ++
    (if c.reserveLevel ≠ old.reserveLevel then [.reserveJudge] else []) ++
    (if boost ≠ f.boost then [.planNotice none] else []))

/-- A write of the trend interval applies at once (R160 a). -/
def State.intervalWritten (s : State) : State :=
  if s.env.cfg.set.trendInterval ≤ s.plant.telem.interval then s.setPlant (takeInterval s.env s.plant) else s

/-- A write of the report period applies at once (R164). -/
def State.periodWritten (s : State) : State :=
  if !s.plant.telem.batch.isEmpty && s.env.cfg.set.reportPeriod ≤ s.plant.telem.report then
    s.setPlant (s.plant.setTelem (s.plant.telem.closeBatch .period))
  else s

/-- A write of the circ run time completes a run that has lasted it (R143). -/
def State.runTimeWritten (s : State) : State :=
  if s.env.cfg.set.circRunTime * 60 ≤ s.plant.frost.circ.run then s.act (completeCirc s.env s.plant) else s

/-- The grant walk of a rating write: none where the record is IDLE (R45 a). -/
def ratingWalk (s : State) (l : Load) : List Sig := if s.plant.load.claim l = .idle then [] else [.walk]

/-- What the owning block does at an accepted write of a setting, the new value being in force (R185 d). DESIGN CHOICE: at a
rating write the grant walk of R45 comes before the fill unit's evaluation of R94 d, g (log 6); at a write of L_reserve, and at a
re-clamp of it, the plan evaluation comes before the judgement of the reserve (log 6); and pumps that one write makes fitted, or
unfitted, are taken P1, P2, P3, each with its own call evaluation (log 49); no rule orders them. -/
def State.written (s : State) (old : Settings) : SettingId → State
  | .lTop => s.topWritten
  | .hLow | .hOver | .floatTol => s.settle [.cond .levelDisagree (levelDisagrees s.env.cfg.set s.env.level)]
  | .source => s.sourceWritten old
  | .capCheap | .capDear => s.settle [.setCap, .planEval]
  | .pumpRating p => s.settle (ratingWalk s (.pump p) ++ [.planEval])
  | .zoneRating z =>
    s.settle (ratingWalk s (.zone z) ++
      (if freezeSum old s.plant.load = freezeSum s.env.cfg.set s.plant.load then [] else [.planEval]))
  | .pumpsFitted => (((s.refit old .p1).refit old .p2).refit old .p3).settle [.planEval]
  | .delivery _ | .margin | .refillBand => s.settle [.planEval]
  | .restTime => State.endRests (restsOver s) s
  | .fillTarget =>
    s.settle (.planEval :: if s.env.cfg.set.reserveLevel = old.reserveLevel then [] else [.reserveJudge])
  | .reserveLevel => s.settle [.planEval, .reserveJudge]
  | .reserveBand => s.settle [.reserveJudge]
  | .lHigh => s.highWritten old
  | .lHh | .lOver | .hysteresis | .tWarn => s.settle guardWriteSigs
  | .enabled z => zoneEnableSigs s old z
  | .onBelow z | .offAbove z | .critical z => s.settle [.zoneJudge z, .zoneClass z]
  | .circRunTime => s.runTimeWritten
  | .trendInterval => s.intervalWritten
  | .reportPeriod => s.periodWritten
  | _ => s

/-- The working settings with other numbers. -/
def State.withSettings (s : State) (c : Settings) : State := s.setCfg { s.env.cfg with set := c }

/-- A write taken by the owning block (R185 d): clamped, checked against its order, dependents re-clamped, applied. -/
def writeValue (i : SettingId) (v : Int) (s : State) : State × Answer :=
  let old := s.env.cfg.set
  let w := takenValue old i v
  let r := reclamp (dependents i) (putSetting old i w)
  if i.ordered && !setpointsOrdered (putSetting old i w) then (s, .bare .range)
  else
    let x := beforeWrite s r.1 i
    let s1 := (((s.setPlant x.1).withSettings r.1).settle x.2).written old i
    let content := settingBytes r.1 i ++ listBytes (settingBytes r.1) r.2
    (s1, ⟨okOr (w ≠ v || !r.2.isEmpty), content, if i = .lineRate then .lineRate r.1.lineRate else .nothing⟩)

/-- WRITE SETTING (R185). -/
def answerWriteSetting (body : List Byte) (s : State) : State × Answer :=
  if !wellFormedBody 7 body then (s, .bare .form)
  else
    match settingOf (field body 0 2) with
    | none => (s, .bare .form)
    | some i =>
      if s.committing then (s, .bare .busy)
      else if i.structural && s.env.sys.mode ≠ .setup then (s, .bare .state)
      else writeValue i (signed32 (field body 2 4)) s

/-- The class of a setting as a byte: S 0, O 1, as section 4.4 lists them. -/
def SettingId.classCode (i : SettingId) : Nat := if i.structural then 0 else 1

/-- READ SETTING (R185). -/
def answerReadSetting (body : List Byte) (s : State) : State × Answer :=
  if !wellFormedBody 3 body then (s, .bare .form)
  else
    match settingOf (field body 0 2) with
    | none => (s, .bare .form)
    | some i =>
      let c := s.env.cfg.set
      (s, .of .ok (settingBytes c i ++ u8 i.classCode ++ s32 (rangeOf c i).1 ++ s32 (rangeOf c i).2))

end Sys2Proof.Machine
end

