-- ==== Sys2Proof/Machine/LevelCommands.lean ====
section
/-! DEFINITION. The commands of the level unit (Part 1): the transducer sample, the minute timer, the floats, the geometry
table, READ LEVEL. -/

namespace Sys2Proof.Machine

/-- The condition LEVEL_SENSOR handed at a change of the quality (R8). -/
def sensorSigs (old new : Quality) : List Sig :=
  if new = .invalid && old ≠ .invalid then [Sig.cond .levelSensor true]
  else if old = .invalid && new ≠ .invalid then [Sig.cond .levelSensor false]
  else []

/-- The raw code that a sample reads: the simulated one in COMMISSION (R1, R19). -/
def sampledRaw (e : Env) (raw : BitVec 12) : Nat := if e.sys.mode = .commission then e.sys.sim.raw else raw.toNat

/-- The last code read from the transducer itself after a sample: COMMISSION reads the simulated code instead (R19). -/
def transducerAfter (e : Env) (raw : BitVec 12) : Nat :=
  if e.sys.mode = .commission then e.level.transducer else raw.toNat

/-- One transducer sample (R1 to R9). DESIGN CHOICE (log 5): a recovery hands LEVEL_SENSOR's going, and an INVALID its
appearance, before the publication's own hand-overs; R7 c and R8 fix no order. -/
def takeSample (raw : BitVec 12) (s : State) : State :=
  let old := s.env.level
  let lv := { old.sample s.env.cfg.set (sampledRaw s.env raw) with transducer := transducerAfter s.env raw }
  let s := s.setLevel lv
  s.settle (sensorSigs old.quality lv.quality ++
    (if old.publishes lv then publicationSigs s.env (old.quality != lv.quality) else []))

/-- TRANSDUCER_SAMPLE (R1). -/
def execTransducerSample (raw : BitVec 12) (s : State) : Host.Outcome State Fault Refusal := .next (takeSample raw s)

/-- LEVEL_MINUTE_TIMER (R10, R11): the rate decided, a new snapshot, T_ovf recomputed. -/
def execLevelMinuteTimer (s : State) : Host.Outcome State Fault Refusal :=
  .next (s.setLevel (s.env.level.minute s.env.cfg.set))

/-- One float's pin replaced. -/
def Pins.setFloat (p : Pins) (f : FloatId) (w : Wet) : Pins :=
  match f with
  | .low => { p with low := w }
  | .overFloat => { p with overFloat := w }

/-- FLOAT_CONTACT_CHANGE (R12): the pin takes its new reading, and outside COMMISSION the debounce sees it (R19). -/
def execFloatContactChange (f : FloatId) (w : Wet) (s : State) : Host.Outcome State Fault Refusal :=
  let s := s.setPins (s.env.pins.setFloat f w)
  .next (if s.env.sys.mode = .commission then s
         else s.setLevel (s.env.level.setFloat f ((s.env.level.float f).see w)))

/-- What a float change hands on (R12, R14, R107, R125). DESIGN CHOICE (log 5): the disagreement test first, then the guard,
then the reserve; no rule orders the three blocks at a float change. -/
def floatSigs (e : Env) : FloatId → List Sig
  | .low => [.cond .levelDisagree (levelDisagrees e.cfg.set e.level), .reserveJudge]
  | .overFloat => [.cond .levelDisagree (levelDisagrees e.cfg.set e.level), .overChange, .reserveJudge]

/-- A float change (R12): the reported state turns; the LOW wet timer follows the LOW float (R107). -/
def floatChange (f : FloatId) (s : State) : State :=
  let s := s.setLevel (s.env.level.setFloat f (s.env.level.float f).flip)
  let s := if f = .low then s.setPlant (lowChanged s.plant) else s
  s.settle (floatSigs s.env f)

/-- FLOAT_DEBOUNCE_EXPIRY (R12): a contact that differs from the reported state has stood for 2 s. -/
def execFloatDebounceExpiry (f : FloatId) (s : State) : Host.Outcome State Fault Refusal :=
  .next (if (s.env.level.float f).debounce.isSome then floatChange f s else s)

/-! ### Geometry (R15 to R17) -/

/-- The breakpoints of a WRITE GEOMETRY body after its count. -/
def readBreakpoints : Nat → List Byte → List Breakpoint
  | 0, _ => []
  | n + 1, bs => ⟨field bs 0 2, field bs 2 4⟩ :: readBreakpoints n (bs.drop 6)

/-- Levels and volumes both rise strictly (R15). -/
def risesStrictly : List Breakpoint → Bool
  | a :: b :: rest => a.level < b.level && a.volume < b.volume && risesStrictly (b :: rest)
  | _ => true

/-- A table that WRITE GEOMETRY accepts (R15, R16 d). -/
def geometryAccepted (c : Settings) (bs : List Breakpoint) : Bool :=
  Config.geometryMin ≤ bs.length && bs.length ≤ Config.geometryMax && bs.head?.any (·.level == 0) &&
    bs.all (fun b => b.level ≤ Config.geometryLevelTop && b.volume ≤ Config.geometryVolumeTop) && risesStrictly bs &&
    c.lOver ≤ lastLevel bs

/-- A list body has the length its count gives and ends in a reserved byte of 0 (R16 a, R24 a). -/
def wellFormedList (entry : Nat) (body : List Byte) : Bool :=
  !body.isEmpty && wellFormedBody (1 + entry * field body 0 1 + 1) body

/-- WRITE GEOMETRY (R16). -/
def answerWriteGeometry (body : List Byte) (s : State) : State × Answer :=
  if !wellFormedList 6 body then (s, .bare .form)
  else if s.env.sys.mode ≠ .setup then (s, .bare .state)
  else if s.committing then (s, .bare .busy)
  else
    let bs := readBreakpoints (field body 0 1) (body.drop 1)
    if geometryAccepted s.env.cfg.set bs then
      let s := s.setCfg { s.env.cfg with geometry := some bs }
      (if s.env.level.published then s.republish else s, .bare .ok)
    else (s, .bare .range)

/-- The content of READ GEOMETRY (R17). -/
def geometryContent (s : State) : List Byte :=
  breakpointBytes (s.env.cfg.geometry.getD [])

/-- READ GEOMETRY (R17). -/
def answerReadGeometry (body : List Byte) (s : State) : State × Answer := readRequest body geometryContent s

/-- The content of READ LEVEL (R18). -/
def levelContent (s : State) : List Byte :=
  let lv := s.env.level
  u16 lv.shown ++ u8 lv.quality.code ++ s16? lv.rate ++ u16 lv.tOvf ++ u32? (s.env.cfg.volume lv.shown) ++
    u8 (wetCode lv.low.reported) ++ u8 (wetCode lv.overFloat.reported) ++ u16 lv.lastRaw

/-- READ LEVEL (R18). -/
def answerReadLevel (body : List Byte) (s : State) : State × Answer := readRequest body levelContent s

/-- WRITE GEOMETRY as a command. -/
def execWriteGeometry (tag : Byte) (body : List Byte) (s : State) : Host.Outcome State Fault Refusal :=
  submit 0x12 tag body (answerWriteGeometry body) s

/-- READ GEOMETRY as a command. -/
def execReadGeometry (tag : Byte) (body : List Byte) (s : State) : Host.Outcome State Fault Refusal :=
  submit 0x13 tag body (answerReadGeometry body) s

/-- READ LEVEL as a command. -/
def execReadLevel (tag : Byte) (body : List Byte) (s : State) : Host.Outcome State Fault Refusal :=
  submit 0x20 tag body (answerReadLevel body) s

end Sys2Proof.Machine
end

