-- ==== Sys2Proof/Machine/ClockCommands.lean ====
section
/-! DEFINITION. The commands of the clock and tariff unit (Part 2). -/

namespace Sys2Proof.Machine

/-- CLOCK_MINUTE (R21, R23): the second returns to 0, the minute-of-week rises, the calendar is judged again. An UNSET
clock makes no clock minutes. -/
def execClockMinute (s : State) : Host.Outcome State Fault Refusal :=
  .next (if s.env.clock.isSet then (s.setClock s.env.clock.tickMinute).evaluateTariff else s)

/-- TARIFF_CONTACT_CHANGE (R26): the pin takes its new reading, and outside COMMISSION the debounce sees it. -/
def execTariffContactChange (c : Contact) (s : State) : Host.Outcome State Fault Refusal :=
  let s := s.setPins { s.env.pins with tariff := c }
  .next (if s.env.sys.mode = .commission then s else s.setClock (s.env.clock.seeLine c))

/-- TARIFF_DEBOUNCE_EXPIRY (R26, R27, R30): a contact that differs from the reported state has stood for 5 s. -/
def execTariffDebounceExpiry (s : State) : Host.Outcome State Fault Refusal :=
  .next (if s.env.clock.lineDebounce.isSome then (s.setClock s.env.clock.flipLine).evaluateTariff else s)

/-- LINE_MINUTE_TICK (R26): the stale count and the minutes since the line went cheap; the tariff state is evaluated as
the line becomes STALE. -/
def execLineMinuteTick (s : State) : Host.Outcome State Fault Refusal :=
  let c := s.env.clock.lineTick
  let s' := s.setClock c
  .next (if c.isStale && !s.env.clock.isStale then s'.evaluateTariff else s')

/-! ### The day clock's requests (R22, R31) -/

/-- SET CLOCK (R22). -/
def answerSetClock (body : List Byte) (s : State) : State × Answer :=
  if !wellFormedBody 4 body then (s, .bare .form)
  else
    let m := field body 0 2
    let sec := field body 2 1
    let m' := min (Config.weekMinutes - 1) m
    let sec' := min 59 sec
    let s := (s.setClock { s.env.clock with isSet := true, minute := m', second := sec' }).evaluateTariff
    let clamped := m' ≠ m || sec' ≠ sec
    (s, .of (okOr clamped) (if clamped then u16 m' ++ u8 sec' else []))

/-- The content of READ CLOCK (R31). DESIGN CHOICE (log 12): the clock set flag is 1 for SET, and the stale count takes the two bytes of
minutes. -/
def clockContent (s : State) : List Byte :=
  let c := s.env.clock
  let w := s.env.cfg
  mark c.isSet ++ u16 c.minute ++ u8 c.second ++ u8 c.tariff.code ++ u8 (basisOf w.set.source c).code ++
    u8 w.set.source.code ++ u8 (contactCode c.line) ++ mark c.isStale ++ u16 c.stale ++
    withPresence u16? (c.lineCheap.map (·.minutes)) ++ u16 (tRem w c) ++ u16 c.learned

/-- READ CLOCK (R31). -/
def answerReadClock (body : List Byte) (s : State) : State × Answer := readRequest body clockContent s

/-! ### The calendar (R23 to R25) -/

/-- The windows of a WRITE TARIFF WINDOWS body after its count. -/
def readWindows : Nat → List Byte → List Window
  | 0, _ => []
  | n + 1, bs => ⟨field bs 0 2, field bs 2 2⟩ :: readWindows n (bs.drop 4)

/-- Two windows stand apart: they share no minute and neither ends where the other starts (R24 c). -/
def windowsApart (a b : Window) : Bool :=
  !(a.covers b.start) && !(b.covers a.start) && a.stop != b.start && b.stop != a.start

/-- Every two windows of a list stand apart. -/
def allApart : List Window → Bool
  | [] => true
  | w :: ws => ws.all (windowsApart w) && allApart ws

/-- A calendar that WRITE TARIFF WINDOWS accepts (R24 c). -/
def windowsAccepted (ws : List Window) : Bool :=
  ws.length ≤ Config.windowsMax &&
    ws.all (fun w => w.start < Config.weekMinutes && w.stop < Config.weekMinutes && w.start != w.stop) && allApart ws

/-- WRITE TARIFF WINDOWS (R24). -/
def answerWriteTariffWindows (body : List Byte) (s : State) : State × Answer :=
  if !wellFormedList 4 body then (s, .bare .form)
  else if s.committing then (s, .bare .busy)
  else
    let ws := readWindows (field body 0 1) (body.drop 1)
    if windowsAccepted ws then ((s.setCfg { s.env.cfg with windows := ws }).evaluateTariff, .bare .ok)
    else (s, .bare .range)

/-- The content of READ TARIFF WINDOWS (R25). -/
def windowsContent (s : State) : List Byte := windowBytes s.env.cfg.windows

/-- READ TARIFF WINDOWS (R25). -/
def answerReadTariffWindows (body : List Byte) (s : State) : State × Answer := readRequest body windowsContent s

/-- SET CLOCK as a command. -/
def execSetClock (tag : Byte) (body : List Byte) (s : State) : Host.Outcome State Fault Refusal :=
  submit 0x17 tag body (answerSetClock body) s

/-- READ CLOCK as a command. -/
def execReadClock (tag : Byte) (body : List Byte) (s : State) : Host.Outcome State Fault Refusal :=
  submit 0x18 tag body (answerReadClock body) s

/-- WRITE TARIFF WINDOWS as a command. -/
def execWriteTariffWindows (tag : Byte) (body : List Byte) (s : State) : Host.Outcome State Fault Refusal :=
  submit 0x14 tag body (answerWriteTariffWindows body) s

/-- READ TARIFF WINDOWS as a command. -/
def execReadTariffWindows (tag : Byte) (body : List Byte) (s : State) : Host.Outcome State Fault Refusal :=
  submit 0x15 tag body (answerReadTariffWindows body) s

end Sys2Proof.Machine
end

