-- ==== Sys2Proof/Machine/PumpCommands.lean ====
section
/-! DEFINITION. The commands of the load-share unit (Part 3) and of the pump unit (Part 4). -/

namespace Sys2Proof.Machine

/-! ### Events (R53, R61, R64, R66, R68, R72) -/

/-- SPACING_TIMER_ELAPSED (R53, R60): the spacing timer has reached the start spacing; a start check. -/
def execSpacingTimerElapsed (s : State) : Host.Outcome State Fault Refusal :=
  let P := s.plant
  let P := P.setPumps { P.pumps with spacing := max P.pumps.spacing s.env.cfg.set.startSpacing }
  .next (s.act (P, [.startCheck]))

/-- FEEDBACK_TIME_EXPIRY (R61 b, R66 a). -/
def execFeedbackTimeExpiry (p : Pump) (s : State) : Host.Outcome State Fault Refusal :=
  .next (s.act (feedbackTimeout s.env p s.plant))

/-- RUN_FEEDBACK_CHANGE (R61 a, R66 b, c): the pin takes its new reading; in COMMISSION the real contact is not read
(R72 c). -/
def execRunFeedbackChange (p : Pump) (f : Presence) (s : State) : Host.Outcome State Fault Refusal :=
  let changed := s.env.pins.feedback.get p ≠ f
  let s := s.setPins { s.env.pins with feedback := s.env.pins.feedback.set p f }
  .next (if s.env.sys.mode = .commission || !changed || !fitted s.env.cfg.set p then s
         else s.act (feedbackSeen s.env p f s.plant))

/-- FEEDBACK_WITHOUT_COMMAND (R66 c): the feedback has stood PRESENT for the feedback time with the contactor open. -/
def execFeedbackWithoutCommand (p : Pump) (s : State) : Host.Outcome State Fault Refusal :=
  .next (s.act (feedbackFound s.env p s.plant))

/-- The simulated feedback that a contactor command brings after 2 s (R72 c). -/
def followsCommand (r : PumpRec) : Presence := if r.closed then .present else .absent

/-- SIMULATED_FEEDBACK_CHANGE (R72 c): in COMMISSION the simulated feedback takes what the contactor command gives. -/
def execSimulatedFeedbackChange (p : Pump) (s : State) : Host.Outcome State Fault Refusal :=
  let r := s.plant.pumps.recs.get p
  let f := followsCommand r
  .next (if s.env.sys.mode = .commission && fitted s.env.cfg.set p && r.simFeedback != f then
           s.act (feedbackSeen s.env p f (s.plant.setPump p { r with simFeedback := f }))
         else s)

/-- REST_END (R64). -/
def execRestEnd (p : Pump) (s : State) : Host.Outcome State Fault Refusal :=
  .next (if fitted s.env.cfg.set p then s.act (endRest p s.plant) else s)

/-- STAGNATION_MINUTE (R68): the stagnation timer rises by one while no pump is RUNNING. -/
def execStagnationMinute (s : State) : Host.Outcome State Fault Refusal :=
  let u := s.plant.pumps
  .next (if anyRunning s.plant then s
         else s.setPlant (s.plant.setPumps
           { u with stagnation := satAdd maxU16 u.stagnation 1, stagnationSecs := 0 }))

/-! ### Requests (R69 to R71) -/

/-- The demands served as a list of codes: FILL 0, BOOST 1, RESERVE 2, CIRCULATION 3 (R51, R181 c, d). -/
def servedCodes (v : Served) : List Nat :=
  (if v.fill then [0] else []) ++ (if v.boost then [1] else []) ++ (if v.reserve then [2] else []) ++
    (if v.circ then [3] else [])

/-- The claim state and class of a record. -/
def claimBytes (k : Claim) : List Byte := u8 k.code ++ u8? (k.cls?.map (·.number))

/-- A pump's record in READ PUMPS (R69). DESIGN CHOICE (log 12): the call class is coded by its number in R34, as a claim's is. -/
def pumpBytes (s : State) (p : Pump) : List Byte :=
  let r := s.plant.pumps.recs.get p
  u8 r.state.code ++ u16 (s.env.cfg.set.delivery.get p) ++ listBytes u8 (servedCodes r.served) ++
    u8? (r.callClass.map (·.number)) ++ claimBytes (s.plant.load.pumps.get p) ++ u32 r.timer ++
    stampBytes (r.run.bind (·.start)) ++ mark r.windowMark ++ u8 (if r.closed then 1 else 0) ++
    u8 (presenceCode (feedbackOf s.env s.plant p))

/-- The content of READ PUMPS (R69). -/
def pumpsContent (s : State) : List Byte :=
  let u := s.plant.pumps
  u8 s.env.cfg.set.pumpsFitted ++ allPumps.flatMap (pumpBytes s) ++ listBytes (fun p => u8 (pumpNumber p)) u.duty ++
    u8 u.fillK ++ u8 u.boostK ++ u8 (asCount u.reserve) ++ u8 (asCount u.circ) ++ u8 u.limit.code ++
    u8 (numberCalled s.env u) ++ u32 u.spacing ++ mark u.rotationPending ++ mark u.windowOpen ++ u16 u.stagnation ++
    mark u.inletRequest

/-- READ PUMPS (R69). -/
def answerReadPumps (body : List Byte) (s : State) : State × Answer := readRequest body pumpsContent s

/-- The fitted pump that a body of one number and the reserved byte names. -/
def pumpNamed (c : Settings) (body : List Byte) : Option Pump := (pumpOf (field body 0 1)).filter (fitted c)

/-- LOCK PUMP (R70). DESIGN CHOICE (log 83): from LOCKOUT the going of the fault is handed before the change of state. -/
def answerLockPump (body : List Byte) (s : State) : State × Answer :=
  if !wellFormedBody 2 body then (s, .bare .form)
  else if s.env.sys.mode = .commission then (s, .bare .state)
  else
    match pumpNamed s.env.cfg.set body with
    | none => (s, .bare .state)
    | some p =>
      let r := s.plant.pumps.recs.get p
      match r.state with
      | .out => (s, .bare .ok)
      | .lockout =>
        (s.act (s.plant.setPump p (r.opened .out .empty), [.cond (pumpFault p) false, .pumpState]), .bare .ok)
      | _ => (s.act (retirePump s.env p .out s.plant), .bare .ok)

/-- UNLOCK PUMP (R71). DESIGN CHOICE (log 83): from LOCKOUT the going of the fault is handed before the changes of state and of
the duty list. -/
def answerUnlockPump (body : List Byte) (s : State) : State × Answer :=
  if !wellFormedBody 2 body then (s, .bare .form)
  else
    match pumpNamed s.env.cfg.set body with
    | none => (s, .bare .state)
    | some p =>
      match (s.plant.pumps.recs.get p).state with
      | .lockout =>
        let x := enlistPump p s.plant
        (s.act (x.1, .cond (pumpFault p) false :: x.2), .bare .ok)
      | .out => (s.act (enlistPump p s.plant), .bare .ok)
      | _ => (s, .bare .state)

/-! ### READ LOADS (R47) -/

/-- A load's record in READ LOADS. -/
def loadBytes (s : State) (l : Load) : List Byte :=
  let k := s.plant.load.claim l
  u16 (rating s.env.cfg.set l) ++ claimBytes k ++ withPresence u32? k.seq? ++ withPresence u32? k.grant?

/-- The content of READ LOADS (R47). DESIGN CHOICE (log 12): which of the two caps is in force is an enumeration of them in the
order of R47, 0 cap_cheap and 1 cap_dear, and not a mark that is 1 for cap_cheap; R181 c allows either. -/
def loadsContent (s : State) : List Byte :=
  let t := s.plant.load
  let c := s.env.cfg.set
  u16 t.cap ++ u8 (if t.capCheap then 0 else 1) ++ u16 c.capCheap ++ u16 c.capDear ++ u32 (grantedSum c t) ++
    u16 (freezeSum c t) ++ allLoads.flatMap (loadBytes s) ++ listBytes (fun l : Load => u8 l.code) (waitingList t)

/-- READ LOADS (R47). -/
def answerReadLoads (body : List Byte) (s : State) : State × Answer := readRequest body loadsContent s

/-- READ PUMPS as a command. -/
def execReadPumps (tag : Byte) (body : List Byte) (s : State) : Host.Outcome State Fault Refusal :=
  submit 0x25 tag body (answerReadPumps body) s

/-- LOCK PUMP as a command. -/
def execLockPump (tag : Byte) (body : List Byte) (s : State) : Host.Outcome State Fault Refusal :=
  submit 0x26 tag body (answerLockPump body) s

/-- UNLOCK PUMP as a command. -/
def execUnlockPump (tag : Byte) (body : List Byte) (s : State) : Host.Outcome State Fault Refusal :=
  submit 0x27 tag body (answerUnlockPump body) s

/-- READ LOADS as a command. -/
def execReadLoads (tag : Byte) (body : List Byte) (s : State) : Host.Outcome State Fault Refusal :=
  submit 0x2F tag body (answerReadLoads body) s

end Sys2Proof.Machine
end

