-- ==== Sys2Proof/Machine/ValveCommands.lean ====
section
/-! DEFINITION. The commands of the valve unit (Part 5): the valve step, MOVE VALVE, HOME VALVE, STOP VALVE, READ VALVES. -/

namespace Sys2Proof.Machine

/-- VALVE_STEP (R76 to R79): one step of a valve, the end-stop reading as given before it and after it; the first reading acts
at a motion's first step alone. -/
def execValveStep (v : ValveId) (endStop : EndStop) (s : State) : Host.Outcome State Fault Refusal :=
  .next (s.act (stepValve v endStop s.env s.plant))

/-- The valve that a code names. -/
def valveOf (n : Nat) : Option ValveId := match n with | 0 => some .inlet | 1 => some .dump | _ => none

/-- The checks b to d of R85, common to MOVE VALVE and HOME VALVE. -/
def stationMayMove (e : Env) (P : Plant) (v : ValveId) : Bool :=
  let o := (P.valves.get v).owner
  e.sys.mode != .commission && o != .pumps && o != .guard && (v != .dump || P.guard.core.state == .normal)

/-- An operation of the station computer begun (R85 f): the earlier one superseded, the owner HOST. -/
def beginOp (v : ValveId) (kind tag : Byte) (P : Plant) : Plant :=
  let P := finishOp .superseded v P
  P.setValve v { P.valves.get v with owner := .host, op := some ⟨tag, kind⟩ }

/-- MOVE VALVE (R85). -/
def answerMoveValve (tag : Byte) (body : List Byte) (s : State) : State × Answer :=
  match wellFormedBody 4 body, valveOf (field body 0 1) with
  | true, some v =>
    if !stationMayMove s.env s.plant v || (s.plant.valves.get v).position.isNone then (s, .bare .state)
    else
      let t := field body 1 2
      let t' := min Config.fullTravel t
      let P := beginOp v 0x28 tag s.plant
      let r := P.valves.get v
      (s.act (applyValve v (r.drive (r.stop s.env) t') P),
       .of (acceptedOr (t' ≠ t)) (if t' ≠ t then u16 t' else []))
  | _, _ => (s, .bare .form)

/-- HOME VALVE (R85). -/
def answerHomeValve (tag : Byte) (body : List Byte) (s : State) : State × Answer :=
  match wellFormedBody 2 body, valveOf (field body 0 1) with
  | true, some v =>
    if !stationMayMove s.env s.plant v then (s, .bare .state)
    else
      let P := beginOp v 0x29 tag s.plant
      let r := P.valves.get v
      (s.act (applyValve v (r.home (r.stop s.env) none) P), .bare .accepted)
  | _, _ => (s, .bare .form)

/-- A motion of the station computer stopped (R86): IDLE where a move stands, UNHOMED from a homing or a seat search. -/
def Valve.stopped (r : Valve) : Valve :=
  match r.state, r.position, r.seat with
  | .moving, some p, none => r.rest p
  | .moving, _, _ | .homing, _, _ =>
    { r with state := .unhomed, position := none, target := none, fromFault := false, unread := false, phase := none,
             seat := none, stuck := none }
  | _, _, _ => r

/-- STOP VALVE (R86). -/
def answerStopValve (body : List Byte) (s : State) : State × Answer :=
  match wellFormedBody 2 body, valveOf (field body 0 1) with
  | true, some v =>
    let r := s.plant.valves.get v
    if r.owner = .host then
      (s.act (finishOp .stopped v (s.plant.setValve v r.stopped), valveSigs v r r.stopped), .bare .ok)
    else (s, .bare .state)
  | _, _ => (s, .bare .form)

/-- A waiting request in READ VALVES: none, a homing, P_fill (R87). -/
def waitingCode : Option PumpsRequest → Nat
  | none => 0
  | some .homing => 1
  | some .pFill => 2

/-- The homing phase in READ VALVES: back-off 0 or seek 1, with the steps taken in it. DESIGN CHOICE (log 80): outside HOMING they
keep their places and are sent as absent. DESIGN CHOICE (log 12): the steps of a phase take two bytes and those of a seat search one, the least that hold 1100 and 50; no rule gives
their widths. -/
def phaseBytes : Option Phase → List Byte
  | some (.backOff n) => u8 0 ++ u16 n
  | some (.seek n) => u8 1 ++ u16 n
  | none => u8? none ++ u16? none

/-- A valve is busy (R87): MOVING or HOMING, or held by PUMPS or GUARD. -/
def Valve.busy (r : Valve) : Bool := r.inMotion || r.owner == .pumps || r.owner == .guard

/-- A valve's record in READ VALVES (R87). DESIGN CHOICE (log 80): the waiting request has no place in the dump's record, and the
steps of a seat search are sent as absent outside one. -/
def valveBytes (s : State) (v : ValveId) : List Byte :=
  let r := s.plant.valves.get v
  u8 r.state.code ++ u16? r.position ++ u16? r.target ++ u8 r.owner.code ++ mark r.busy ++
    withPresence u8? (r.op.map (·.tag.toNat)) ++ (if v = .inlet then u8 (waitingCode r.waiting) else []) ++
    u8 (contactCode (r.stop s.env)) ++ phaseBytes r.phase ++ u8? r.seat

/-- The content of READ VALVES (R87). -/
def valvesContent (s : State) : List Byte := valveBytes s .inlet ++ valveBytes s .dump

/-- READ VALVES (R87). -/
def answerReadValves (body : List Byte) (s : State) : State × Answer := readRequest body valvesContent s

/-- MOVE VALVE as a command. -/
def execMoveValve (tag : Byte) (body : List Byte) (s : State) : Host.Outcome State Fault Refusal :=
  submit 0x28 tag body (answerMoveValve tag body) s

/-- HOME VALVE as a command. -/
def execHomeValve (tag : Byte) (body : List Byte) (s : State) : Host.Outcome State Fault Refusal :=
  submit 0x29 tag body (answerHomeValve tag body) s

/-- STOP VALVE as a command. -/
def execStopValve (tag : Byte) (body : List Byte) (s : State) : Host.Outcome State Fault Refusal :=
  submit 0x2A tag body (answerStopValve body) s

/-- READ VALVES as a command. -/
def execReadValves (tag : Byte) (body : List Byte) (s : State) : Host.Outcome State Fault Refusal :=
  submit 0x2B tag body (answerReadValves body) s

end Sys2Proof.Machine
end

