-- ==== Sys2Proof/Machine/FillCommands.lean ====
section
/-! DEFINITION. The commands of the fill unit (Part 6), with the inflow pulses that the telemetry unit hands it (R168, R184). -/

namespace Sys2Proof.Machine

/-- FILL_MINUTE_TIMER (R94 b, R102, R105). -/
def execFillMinuteTimer (s : State) : Host.Outcome State Fault Refusal := .next (s.act (fillMinute s.plant))

/-- LOW_WET_TIMER_EXPIRY (R107): the LOW float has been WET for 10 minutes; the reserve is judged. -/
def execLowWetTimerExpiry (s : State) : Host.Outcome State Fault Refusal :=
  let f := s.plant.fill
  .next (if s.env.level.low.reported = .wet then
           s.act (s.plant.setFill { f with lowWet := max f.lowWet Config.lowWetMinutes }, [.reserveJudge])
         else s)

/-- One counted inflow pulse (R105, R168). -/
def pulse (s : State) : State := s.setPlant (fillInflow s.env (countInflow s.env s.plant))

/-- INFLOW_PULSE (R168): the real pulse input, not counted in COMMISSION. -/
def execInflowPulse (s : State) : Host.Outcome State Fault Refusal :=
  .next (if s.env.sys.mode = .commission then s else pulse s)

/-- SIMULATED_INFLOW_PULSE (R184): in COMMISSION, at a rate above 0, the running total has reached the litres per pulse;
it is lowered by that amount and the pulse is counted. -/
def execSimulatedInflowPulse (s : State) : Host.Outcome State Fault Refusal :=
  let m := s.env.sys.sim
  .next (if s.env.sys.mode = .commission && m.inflowRate != 0 then
           pulse (s.setSys { s.env.sys with sim := { m with total60 := m.total60 - 60 * s.env.cfg.set.litresPerPulse } })
         else s)

/-! ### Requests (R109 to R112) -/

/-- The checks b and c of R109. -/
def boostAdmitted (e : Env) (P : Plant) : Bool :=
  e.sys.mode == .run && e.level.usable && !P.guard.core.state.shutting

/-- BOOST (R109). -/
def answerBoost (body : List Byte) (s : State) : State × Answer :=
  if !wellFormedBody 4 body then (s, .bare .form)
  else if !boostAdmitted s.env s.plant then (s, .bare .state)
  else
    let l := field body 0 2
    let k := field body 2 1
    let l' := min (s.env.cfg.set.lHigh - 100) l
    let k' := clampNat 1 s.env.cfg.set.pumpsFitted k
    if l' ≤ s.env.level.shown then (s, .bare .state)
    else
      let clamped := l' ≠ l || k' ≠ k
      (s.act (startBoost l' k' s.plant), .of (okOr clamped) (if clamped then u16 l' ++ u8 k' else []))

/-- CANCEL BOOST (R111): the reply gives whether a boost was ended. -/
def answerCancelBoost (body : List Byte) (s : State) : State × Answer :=
  if body.isEmpty then
    (s.act (handleEndBoost .cancelled s.plant), .of .ok (mark s.plant.fill.boost.isSome))
  else (s, .bare .form)

/-- The content of READ PLAN (R112). -/
def planContent (s : State) : List Byte :=
  let P := s.plant
  let f := P.fill
  planFigures P ++ mark f.plan.topped ++ u16 f.draw ++ onOff P.pumps.reserve ++ u16 f.lowWet ++ boostBytes f.boost ++
    u8? (f.boostEnd.map (·.code)) ++ mark f.windowOpen ++ u16 f.window.minutes ++ u32 f.window.inflow ++
    u32? f.window.startVolume ++ mark f.window.usable ++ u16 f.blind ++ u8 P.pumps.fillK ++ u8 P.pumps.boostK ++
    u8 (asCount P.pumps.reserve)

/-- READ PLAN (R112). -/
def answerReadPlan (body : List Byte) (s : State) : State × Answer := readRequest body planContent s

/-- BOOST as a command. -/
def execBoost (tag : Byte) (body : List Byte) (s : State) : Host.Outcome State Fault Refusal :=
  submit 0x23 tag body (answerBoost body) s

/-- CANCEL BOOST as a command. -/
def execCancelBoost (tag : Byte) (body : List Byte) (s : State) : Host.Outcome State Fault Refusal :=
  submit 0x24 tag body (answerCancelBoost body) s

/-- READ PLAN as a command. -/
def execReadPlan (tag : Byte) (body : List Byte) (s : State) : Host.Outcome State Fault Refusal :=
  submit 0x22 tag body (answerReadPlan body) s

end Sys2Proof.Machine
end

