-- ==== Sys2Proof/Machine/GuardCommands.lean ====
section
/-! DEFINITION. The commands of the overflow guard (Part 7): its three timers, CLEAR TRIP, READ GUARD. -/

namespace Sys2Proof.Machine

/-- RELEASE_TIMER_EXPIRY (R120). -/
def execReleaseTimerExpiry (s : State) : Host.Outcome State Fault Refusal := .next (s.act (releaseExpires s.plant))

/-- RUN_ON_TIMER_EXPIRY (R126 d). -/
def execRunOnTimerExpiry (s : State) : Host.Outcome State Fault Refusal := .next (s.act (runOnExpires s.plant))

/-- AUTO_CLEAR_TIMER_EXPIRY (R129). -/
def execAutoClearTimerExpiry (s : State) : Host.Outcome State Fault Refusal := .next (s.act (autoClearExpires s.plant))

/-- CLEAR TRIP (R128): the reply gives the state the guard then enters. -/
def answerClearTrip (body : List Byte) (s : State) : State × Answer :=
  if !body.isEmpty then (s, .bare .form)
  else if !s.plant.guard.core.latch || s.env.level.overFloat.reported = .wet || !clearTest s.env then (s, .bare .state)
  else
    let s := s.act (clearLatch s.plant)
    (s, .of .ok (u8 s.plant.guard.core.state.code))

/-- A timer in READ GUARD: its value in `enc` bytes, then running or stopped. DESIGN CHOICE (log 12): a mark, 1 while it runs. -/
def timerBytes (enc : Nat → List Byte) (t : Timer) : List Byte := enc t.value ++ mark t.running

/-- A hold in READ GUARD (R117, R127): held or not, the guard's target, whether the valve stands IDLE at it, whether the valve
is in FAULT. DESIGN CHOICE (log 82): the FAULT field stands for a valve that is not held too, at-target is then 0, and both are read
from the valve's record as it stands. -/
def holdBytes (h : Option Nat) (r : Valve) : List Byte :=
  mark h.isSome ++ u16? h ++ mark (h.isSome && r.state == .idle && r.position == h) ++ mark r.inFault

/-- The content of READ GUARD (R130). -/
def guardContent (s : State) : List Byte :=
  let g := s.plant.guard
  let k := g.core
  let c := s.env.cfg.set
  u8 k.state.code ++ u8 k.reason.code ++ u8 s.plant.pumps.limit.code ++ mark k.high ++ mark k.highHigh ++ mark k.fast ++
    mark k.latch ++ timerBytes u32 k.release ++ timerBytes u32 k.runOn ++ timerBytes u16 k.autoClear ++ mark g.silence ++
    holdBytes k.inletHold s.plant.valves.inlet ++ holdBytes k.dumpHold s.plant.valves.dump ++ u16 g.age ++
    u8 (wetCode s.env.level.overFloat.reported) ++ u16 c.lHigh ++ u16 c.lHh ++ u16 c.lOver ++ u16 c.hysteresis ++ u16 c.tWarn

/-- READ GUARD (R130). -/
def answerReadGuard (body : List Byte) (s : State) : State × Answer := readRequest body guardContent s

/-- CLEAR TRIP as a command. -/
def execClearTrip (tag : Byte) (body : List Byte) (s : State) : Host.Outcome State Fault Refusal :=
  submit 0x2D tag body (answerClearTrip body) s

/-- READ GUARD as a command. -/
def execReadGuard (tag : Byte) (body : List Byte) (s : State) : Host.Outcome State Fault Refusal :=
  submit 0x2C tag body (answerReadGuard body) s

end Sys2Proof.Machine
end

