-- ==== Sys2Proof/Machine/FrostCommands.lean ====
section
/-! DEFINITION. The commands of the frost unit (Part 8): the sensor read, the heater, fallback and freeze timers, the
circulation timers, READ ZONES. -/

namespace Sys2Proof.Machine

/-- SENSOR_READ (R133, R148 c, R184): the bus answers; the records take the read, from the simulated temperatures in
COMMISSION, where the real reads are remembered and a cold one returns the part to SETUP. DESIGN CHOICE (log 65): the simulated
reads are taken, with all that follows from them, before that return; R148 and R184 order neither. -/
def execSensorRead (z1 z2 z3 z4 air : Option Int) (s : State) : Host.Outcome State Fault Refusal :=
  let b : Bus := ⟨z1, z2, z3, z4, air⟩
  let s := s.setPins { s.env.pins with bus := b }
  .next (
    if s.env.sys.mode = .commission then
      let s := s.setPlant (s.plant.setFrost (rememberReal b s.plant.frost))
      let s := s.settle (readSigs (readBus s.env))
      if coldRead s.env b then changeMode .setup s else s
    else s.settle (readSigs (readBus s.env)))

/-- HEATER_TIMER_EXPIRY (R137). -/
def execHeaterTimerExpiry (z : Zone) (s : State) : Host.Outcome State Fault Refusal := .next (s.act (heaterExpires z s.plant))

/-- FALLBACK_PHASE_CHANGE (R140). -/
def execFallbackPhaseChange (z : Zone) (s : State) : Host.Outcome State Fault Refusal := .next (s.act (phaseChanges z s.plant))

/-- FREEZE_TIMER_MINUTE (R142). -/
def execFreezeTimerMinute (z : Zone) (s : State) : Host.Outcome State Fault Refusal :=
  .next (s.act (freezeMinute z s.env s.plant))

/-- CIRC_RETRY_TIMER_EXPIRY (R145). -/
def execCircRetryTimerExpiry (s : State) : Host.Outcome State Fault Refusal := .next (s.settle [.circRetry])

/-- CIRC_RUN_COMPLETION (R146 a). -/
def execCircRunCompletion (s : State) : Host.Outcome State Fault Refusal := .next (s.act (completeCirc s.env s.plant))

/-- CIRC_WAIT_TIMER_EXPIRY (R146). -/
def execCircWaitTimerExpiry (s : State) : Host.Outcome State Fault Refusal := .next (s.act (circWaitEnds s.env s.plant))

/-! ### READ ZONES (R147) -/

/-- A sensor's record in READ ZONES: reading or absent, status IN_SERVICE 0 or FAULTED 1, bad run, good run. DESIGN CHOICE (log 12):
each run in one byte, as any other number and not as a count of R181 a. -/
def sensorBytes (x : Sensor) : List Byte :=
  s16? x.reading ++ u8 (if x.faulted then 1 else 0) ++ u8 x.badRun ++ u8 x.goodRun

/-- A zone's record in READ ZONES (R147). -/
def zoneBytes (s : State) (z : Zone) : List Byte :=
  let r := zoneRec s.plant z
  let c := zoneSet s.env z
  u8 (if c.enabled then 1 else 0) ++ u8 r.state.code ++ sensorBytes (zoneSens s.plant z) ++ s16 c.onBelow ++
    s16 c.offAbove ++ s16 c.critical ++ claimBytes (s.plant.load.zones.get z) ++ onOff (heaterOn s.plant z) ++
    mark (heaterOutput s.env s.plant z) ++ u32 r.timer ++ mark r.boost ++ u16 r.freeze ++
    (match r.fallback with | some f => onOff f.on ++ u16 f.minutes | none => u8? none ++ u16? none)

/-- The content of READ ZONES (R147). -/
def zonesContent (s : State) : List Byte :=
  let k := s.plant.frost.circ
  let c := s.env.cfg.set
  allZones.flatMap (zoneBytes s) ++ sensorBytes s.plant.frost.air ++ u8 k.state.code ++ u8 (asCount s.plant.pumps.circ) ++
    u32 k.wait ++ u32 k.run ++ u32 k.retry ++ u8? (k.refusal.map (·.code)) ++ s16 c.circBelow ++ u16 c.stagnationLimit ++
    u16 c.circHeadroom ++ u16 c.circRunTime ++ u16 s.plant.pumps.stagnation ++
    u8 (if freezePresent s.plant then 0 else 1)

/-- READ ZONES (R147). -/
def answerReadZones (body : List Byte) (s : State) : State × Answer := readRequest body zonesContent s

/-- READ ZONES as a command. -/
def execReadZones (tag : Byte) (body : List Byte) (s : State) : Host.Outcome State Fault Refusal :=
  submit 0x2E tag body (answerReadZones body) s

end Sys2Proof.Machine
end

