-- ==== Sys2Proof/Machine/AlarmCommands.lean ====
section
/-! DEFINITION. The requests of the alarm unit (Part 9): QUERY ALARM, ACK ALARM, READ ALARMS. -/

namespace Sys2Proof.Machine

/-- The stamp of a record: all ones where it is absent and where the clock was UNSET (R150, R181 b). -/
def alarmStamp (r : AlarmRec) : List Byte := stampBytes r.stamp.join

/-- The content of QUERY ALARM (R153). DESIGN CHOICE (log 12): the numbers of standing and acknowledged records take one byte.
DESIGN CHOICE (log 80): where no record stands the state, the priority, the raise sequence, the stamp and the raise count are sent as
absent too; R153 calls only the id and the kind absent. -/
def queryContent (s : State) : List Byte :=
  let a := s.plant.alarms
  let standing := alarmCount a .active + alarmCount a .latched
  match topAlarm a with
  | some k =>
    let r := a.get k
    mark true ++ u8 k.id ++ u8 k.place ++ u8 r.state.code ++ u8 k.priority ++ withPresence u32? r.raiseSeq ++
      alarmStamp r ++ u32 r.raises ++ u8 standing ++ u8 (alarmCount a .acked)
  | none =>
    mark false ++ u8? none ++ u8? none ++ u8? none ++ u8? none ++ withPresence u32? none ++ stampBytes none ++
      u32? none ++ u8 standing ++ u8 (alarmCount a .acked)

/-- QUERY ALARM (R153). -/
def answerQueryAlarm (body : List Byte) (s : State) : State × Answer := readRequest body queryContent s

/-- ACK ALARM (R154, R152): the reply gives the record's state, also where it is refused. -/
def answerAckAlarm (body : List Byte) (s : State) : State × Answer :=
  match wellFormedBody 2 body, alarmOfId (field body 0 1) with
  | true, some k =>
    let st := (s.plant.alarms.get k).state
    if st.standing then
      let new := st.acknowledged
      (s.setPlant (changeAlarm s.env s.plant k new), .of .ok (u8 new.code))
    else (s, .of .state (u8 st.code))
  | _, _ => (s, .bare .form)

/-- An alarm's record in READ ALARMS (R155): the condition is PRESENT 0 or ABSENT 1. -/
def alarmBytes (a : Alarms) (k : AlarmKind) : List Byte :=
  let r := a.get k
  u8 k.id ++ u8 r.state.code ++ u8 (if r.state.present then 0 else 1) ++ u8 k.priority ++ withPresence u32? r.raiseSeq ++
    alarmStamp r ++ u32 r.raises

/-- The records from an id onward, at most n (R155). -/
def alarmsFrom (f n : Nat) : List AlarmKind := (allAlarms.drop (f - 1)).take n

/-- READ ALARMS (R155); a clamped number of records stands at the end of the content (log 13). -/
def answerReadAlarms (body : List Byte) (s : State) : State × Answer :=
  let f := field body 0 1
  let n := field body 1 1
  let n' := clampNat 1 12 n
  let a := s.plant.alarms
  if !wellFormedBody 3 body || (alarmOfId f).isNone then (s, .bare .form)
  else
    (s, .of (okOr (n' ≠ n))
      (mark (relayOn s.env.cfg.set a) ++ u8 s.env.cfg.set.relayThreshold ++ u32 a.changes ++ u32 a.raiseCounter ++
        listBytes (alarmBytes a) (alarmsFrom f n') ++ (if n' ≠ n then u8 n' else [])))

/-- QUERY ALARM as a command. -/
def execQueryAlarm (tag : Byte) (body : List Byte) (s : State) : Host.Outcome State Fault Refusal :=
  submit 0x30 tag body (answerQueryAlarm body) s

/-- ACK ALARM as a command. -/
def execAckAlarm (tag : Byte) (body : List Byte) (s : State) : Host.Outcome State Fault Refusal :=
  submit 0x31 tag body (answerAckAlarm body) s

/-- READ ALARMS as a command. -/
def execReadAlarms (tag : Byte) (body : List Byte) (s : State) : Host.Outcome State Fault Refusal :=
  submit 0x32 tag body (answerReadAlarms body) s

end Sys2Proof.Machine
end

