-- ==== Sys2Proof/Machine/TelemetryCommands.lean ====
section
/-! DEFINITION. The commands of the telemetry unit (Part 10): the interval and report timers, READ TREND, CLEAR TREND, and
the event counters. -/

namespace Sys2Proof.Machine

/-- TREND_INTERVAL_TIMER (R160 a): an interval point. -/
def execTrendIntervalTimer (s : State) : Host.Outcome State Fault Refusal := .next (s.setPlant (takeInterval s.env s.plant))

/-- REPORT_TIMER_EXPIRY (R164 b): the batch closed for PERIOD; an empty batch has no report timer. -/
def execReportTimerExpiry (s : State) : Host.Outcome State Fault Refusal :=
  .next (if s.plant.telem.batch.isEmpty then s
         else s.setPlant (s.plant.setTelem (s.plant.telem.closeBatch .period)))

/-! ### The trend log (R162, R163) -/

/-- The points from a sequence onward (R162 b). -/
def pointsFrom (log : List TrendPoint) (q : Nat) : List TrendPoint := log.dropWhile (fun p => p.seq != q)

/-- The flags and points that READ TREND answers with (R162 a to d): SKIPPED, CLEARING, the points from the place that the
starting sequence names. -/
def trendAnswer (t : Telem) (q : Nat) : Bool × Bool × List TrendPoint :=
  if t.clear.isSome then (false, true, [])
  else if t.log.any fun p => p.seq == q then (false, false, pointsFrom t.log q)
  else if q = t.pointCounter then (false, false, [])
  else (true, false, t.log)

/-- READ TREND (R162); the oldest sequence is that of the log as it stands, also during a clear (log 26); a clamped number of
points stands at the end of the content (log 13). -/
def answerReadTrend (body : List Byte) (s : State) : State × Answer :=
  let n := field body 4 1
  let n' := clampNat 1 12 n
  let t := s.plant.telem
  let x := trendAnswer t (field body 0 4)
  let pts := x.2.2.take n'
  let flags := flagBit x.1 1 + flagBit x.2.1 2 + flagBit t.log.isEmpty 4
  if !wellFormedBody 6 body then (s, .bare .form)
  else
    (s, .of (okOr (n' ≠ n))
      (u8 flags ++ u8 pts.length ++ u32? (t.log.head?.map (·.seq)) ++ u32 t.pointCounter ++
        pts.flatMap TrendPoint.bytes ++ (if n' ≠ n then u8 n' else [])))

/-- CLEAR TREND (R163). -/
def answerClearTrend (tag : Byte) (body : List Byte) (s : State) : State × Answer :=
  if !body.isEmpty then (s, .bare .form)
  else if s.plant.telem.clear.isSome then (s, .bare .busy)
  else
    (s.setPlant (s.plant.setTelem { s.plant.telem with clear := some tag, clearSecs := 0 }), .bare .accepted)

/-- CLEAR_TREND_DONE (R163): the 2 s have passed; the log is empty and DONE COMPLETE is queued. -/
def execClearTrendDone (s : State) : Host.Outcome State Fault Refusal :=
  let t := s.plant.telem
  .next (match t.clear with
         | some tag =>
           s.setPlant (s.plant.setTelem
             ({ t with log := [], clear := none, clearSecs := 0 }.queueDone tag (doneBody .complete 0x34 none)))
         | none => s)

/-! ### Event counters (R171) -/

/-- A counter event of a code (R169). -/
def counterEventOf (n : Nat) : CounterEvent :=
  match n with
  | 0 => .pumpStarts | 1 => .pumpRunSeconds | 2 => .inflowLitres | 3 => .heatEnergy | 4 => .guardShuts
  | 5 => .dumpOpens | 6 => .linkFaults | 7 => .circRuns | _ => .alarmRaises

/-- A qualifier of a code (R169). -/
def qualifierOf (n : Nat) : Qualifier := match n with | 0 => .any | 1 => .cheap | _ => .dear

/-- The program that a SET COUNTER body gives, its codes clamped (R171 a). DESIGN CHOICE (log 12): a start after of 0 is none, as
`programBytes` gives it; 0xFF, the absent value of R181 b, is no code of the request and is refused (log 14). -/
def programTaken (i : CounterId) (body : List Byte) : Program where
  event := counterEventOf (field body 1 1)
  qualifier := qualifierOf (field body 2 1)
  threshold := field body 3 4
  freeze := field body 7 1 == 1
  startAfter := (counterOf (field body 8 1)).filter (· ≠ i)

/-- A SET COUNTER body gives a program that had to be clamped (R171 a). -/
def programClamped (i : CounterId) (body : List Byte) : Bool :=
  8 < field body 1 1 || 2 < field body 2 1 || field body 8 1 == i.number

/-- SET COUNTER (R171 a); a freeze code above 1 and a start after above 4 are no code the request admits (log 14). -/
def answerSetCounter (body : List Byte) (s : State) : State × Answer :=
  match wellFormedBody 10 body, counterOf (field body 0 1) with
  | true, some i =>
    if 1 < field body 7 1 || 4 < field body 8 1 then (s, .bare .form)
    else if s.committing then (s, .bare .busy)
    else
      let p := programTaken i body
      let s := s.setCfg { s.env.cfg with programs := s.env.cfg.programs.set i p }
      (s.setPlant (s.plant.setTelem (s.plant.telem.resetCounter i p)),
       .of (okOr (programClamped i body)) (if programClamped i body then programBytes p else []))
  | _, _ => (s, .bare .form)

/-- RESET COUNTER (R171 b). -/
def answerResetCounter (body : List Byte) (s : State) : State × Answer :=
  match wellFormedBody 2 body, counterOf (field body 0 1) with
  | true, some i =>
    (s.setPlant (s.plant.setTelem (s.plant.telem.resetCounter i (s.env.cfg.programs.get i))), .bare .ok)
  | _, _ => (s, .bare .form)

/-- A counter in READ COUNTERS (R171 c). -/
def counterBytes (s : State) (i : CounterId) : List Byte :=
  let c := s.plant.telem.counters.get i
  programBytes (s.env.cfg.programs.get i) ++ u32 c.count ++ mark c.crossed ++ mark c.started ++ mark c.frozen

/-- The content of READ COUNTERS (R171 c). -/
def countersContent (s : State) : List Byte := allCounters.flatMap (counterBytes s)

/-- READ COUNTERS (R171 c). -/
def answerReadCounters (body : List Byte) (s : State) : State × Answer := readRequest body countersContent s

/-- READ TREND as a command. -/
def execReadTrend (tag : Byte) (body : List Byte) (s : State) : Host.Outcome State Fault Refusal :=
  submit 0x33 tag body (answerReadTrend body) s

/-- CLEAR TREND as a command. -/
def execClearTrend (tag : Byte) (body : List Byte) (s : State) : Host.Outcome State Fault Refusal :=
  submit 0x34 tag body (answerClearTrend tag body) s

/-- READ COUNTERS as a command. -/
def execReadCounters (tag : Byte) (body : List Byte) (s : State) : Host.Outcome State Fault Refusal :=
  submit 0x35 tag body (answerReadCounters body) s

/-- SET COUNTER as a command. -/
def execSetCounter (tag : Byte) (body : List Byte) (s : State) : Host.Outcome State Fault Refusal :=
  submit 0x36 tag body (answerSetCounter body) s

/-- RESET COUNTER as a command. -/
def execResetCounter (tag : Byte) (body : List Byte) (s : State) : Host.Outcome State Fault Refusal :=
  submit 0x37 tag body (answerResetCounter body) s

end Sys2Proof.Machine
end

