-- ==== Sys2Proof/Machine/SystemCommands.lean ====
section
/-! DEFINITION. The commands of the mode and store unit (Part 12): restarts, SET MODE, SIMULATE INPUTS, the settings and the
store, READ STATUS, RESTART. -/

namespace Sys2Proof.Machine

/-- POWER_ON (R187): a COLD full restart. -/
def execPowerOn (s : State) : Host.Outcome State Fault Refusal := .next (restart .cold s)

/-- SUPPLY_DIP_RESTART (R187): a DIP full restart. -/
def execSupplyDipRestart (s : State) : Host.Outcome State Fault Refusal := .next (restart .dip s)

/-- RESET_LINE (R187): a PIN warm restart. -/
def execResetLine (s : State) : Host.Outcome State Fault Refusal := .next (restart .pin s)

/-- The content of READ STATUS (R188). -/
def statusContent (s : State) : List Byte :=
  let y := s.env.sys
  u8 y.cause.code ++ u8 y.mode.code ++ u8 y.storeState.code ++ mark y.commit.isSome ++ mark (anyZoneClaim s.plant) ++
    u16 (failingCheck s.env.cfg)

/-- READ STATUS (R188). -/
def answerReadStatus (body : List Byte) (s : State) : State × Answer := readRequest body statusContent s

/-- The mode of a code (R183). -/
def modeOf (n : Nat) : Option Mode :=
  match n with
  | 0 => some .setup
  | 1 => some .run
  | 2 => some .commission
  | _ => none

/-- A change of mode asked of the table of R183: carried out, or refused with STATE, with the id of the first failing
RUN-entry check where that is the reason. -/
def askMode (m : Mode) (s : State) : State × Answer :=
  match s.env.sys.mode, m with
  | .setup, .run =>
    if runEntry s.env.cfg then (changeMode .run s, .bare .ok)
    else (s, .of .state (u16 (failingCheck s.env.cfg)))
  | .setup, .commission =>
    if anyZoneClaim s.plant then (s, .bare .state) else (changeMode .commission s, .bare .ok)
  | .run, .setup | .commission, .setup => (changeMode .setup s, .bare .ok)
  | .run, .commission | .commission, .run => (s, .bare .state)
  | .setup, .setup | .run, .run | .commission, .commission => (s, .bare .ok)

/-- SET MODE (R183). -/
def answerSetMode (body : List Byte) (s : State) : State × Answer :=
  match wellFormedBody 2 body, modeOf (field body 0 1) with
  | true, some m => askMode m s
  | _, _ => (s, .bare .form)

/-- RESTART (R189): the reply is sent whole, then the part restarts. -/
def answerRestart (body : List Byte) (s : State) : State × Answer :=
  if body.isEmpty then (s, ⟨.ok, [], .restart⟩) else (s, .bare .form)

/-! ### SIMULATE INPUTS (R184) -/

/-- A float code: 0 WET, anything above clamped to 1, DRY. -/
def wetOf (n : Nat) : Wet := if n = 0 then .wet else .dry

/-- A line code: 0 CLOSED, anything above clamped to 1, OPEN. -/
def contactOf (n : Nat) : Contact := if n = 0 then .closed else .opened

/-- A simulated temperature; 0x8000 simulates no answer. -/
def tempOf (n : Nat) : Option Int := if n = 0x8000 then none else some (signed16 n)

/-- The simulated inputs that a body gives, the running total kept. -/
def simulatedTaken (total : Nat) (body : List Byte) : Simulated where
  raw := min 4095 (field body 0 2)
  low := wetOf (field body 2 1)
  overFloat := wetOf (field body 3 1)
  temps := ⟨tempOf (field body 4 2), tempOf (field body 6 2), tempOf (field body 8 2), tempOf (field body 10 2),
            tempOf (field body 12 2)⟩
  tariff := contactOf (field body 14 1)
  inflowRate := field body 15 2
  total60 := total

/-- A body gives a value that had to be clamped. -/
def simulatedClamped (body : List Byte) : Bool :=
  4095 < field body 0 2 || 1 < field body 2 1 || 1 < field body 3 1 || 1 < field body 14 1

/-- The simulated inputs as bytes, in the order of the request (R184, R181 e). -/
def simulatedBytes (m : Simulated) : List Byte :=
  u16 m.raw ++ u8 (wetCode m.low) ++ u8 (wetCode m.overFloat) ++ s16? m.temps.z1 ++ s16? m.temps.z2 ++ s16? m.temps.z3 ++
    s16? m.temps.z4 ++ s16? m.temps.air ++ u8 (contactCode m.tariff) ++ u16 m.inflowRate

/-- SIMULATE INPUTS (R184): each value takes effect at the next sample or read of its owner. DEDUCED (log 81): the contacts, which R12
and R26 have read continuously, are seen by their debounces at once, the floats too, and not at the next sample (R19). DESIGN CHOICE
(log 81): a CLAMPED reply gives all the values, and not the clamped ones alone. -/
def answerSimulateInputs (body : List Byte) (s : State) : State × Answer :=
  if !wellFormedBody 18 body then (s, .bare .form)
  else if s.env.sys.mode ≠ .commission then (s, .bare .state)
  else
    let m := simulatedTaken s.env.sys.sim.total60 body
    let lv := s.env.level
    let s := (s.setSys { s.env.sys with sim := m }).setLevel
      { lv with low := lv.low.see m.low, overFloat := lv.overFloat.see m.overFloat }
    let s := s.setClock (s.env.clock.seeLine m.tariff)
    (s, .of (okOr (simulatedClamped body)) (if simulatedClamped body then simulatedBytes m else []))

/-! ### The settings store (R186) -/

/-- COMMIT SETTINGS (R186): the working settings as they stand are the ones written. -/
def answerCommitSettings (tag : Byte) (body : List Byte) (s : State) : State × Answer :=
  if !body.isEmpty then (s, .bare .form)
  else if s.committing then (s, .bare .busy)
  else (s.setSys { s.env.sys with commit := some ⟨tag, s.env.cfg⟩ }, .bare .accepted)

/-- The end of a commit (R186 a, b): the store, its state, the DONE notice, the STORE condition, and a STATUS notice where
the store state has changed. DESIGN CHOICE (log 75): in this order; R186 gives none. -/
def endCommit (c : Commit) (pass : Bool) (s : State) : State :=
  let y := s.env.sys
  let new : StoreState := if pass then .loaded else .commitFailed
  let s := s.setSys { y with commit := none, store := if pass then .seal c.snapshot else .broken c.snapshot, storeState := new }
  let t := s.plant.telem.queueDone c.tag (doneBody (if pass then .complete else .fault) 0x16 none)
  (s.setPlant (s.plant.setTelem t)).settle
    (.cond .store (!pass) :: (if new = y.storeState then [] else [Sig.status .store]))

/-- COMMIT_DONE (R186): the commit in flight ends, its read-back check passing or not. -/
def execCommitDone (pass : Bool) (s : State) : Host.Outcome State Fault Refusal :=
  .next (match s.env.sys.commit with | some c => endCommit c pass s | none => s)

/-! ### The requests as commands -/

/-- READ STATUS as a command. -/
def execReadStatus (tag : Byte) (body : List Byte) (s : State) : Host.Outcome State Fault Refusal :=
  submit 0x02 tag body (answerReadStatus body) s

/-- SET MODE as a command. -/
def execSetMode (tag : Byte) (body : List Byte) (s : State) : Host.Outcome State Fault Refusal :=
  submit 0x03 tag body (answerSetMode body) s

/-- RESTART as a command. -/
def execRestart (tag : Byte) (body : List Byte) (s : State) : Host.Outcome State Fault Refusal :=
  submit 0x04 tag body (answerRestart body) s

/-- WRITE SETTING as a command. -/
def execWriteSetting (tag : Byte) (body : List Byte) (s : State) : Host.Outcome State Fault Refusal :=
  submit 0x10 tag body (answerWriteSetting body) s

/-- READ SETTING as a command. -/
def execReadSetting (tag : Byte) (body : List Byte) (s : State) : Host.Outcome State Fault Refusal :=
  submit 0x11 tag body (answerReadSetting body) s

/-- COMMIT SETTINGS as a command. -/
def execCommitSettings (tag : Byte) (body : List Byte) (s : State) : Host.Outcome State Fault Refusal :=
  submit 0x16 tag body (answerCommitSettings tag body) s

/-- SIMULATE INPUTS as a command. -/
def execSimulateInputs (tag : Byte) (body : List Byte) (s : State) : Host.Outcome State Fault Refusal :=
  submit 0x21 tag body (answerSimulateInputs body) s

end Sys2Proof.Machine
end

