-- ==== Sys2Proof/Machine/LinkCommands.lean ====
section
/-! DEFINITION. The message link (Part 11): its own requests, the kind table, the receiver, the transmitter, supervision. -/

namespace Sys2Proof.Machine

/-! ### The link unit's own requests (R178) -/

/-- PING (R178 a). -/
def answerPing (body : List Byte) (s : State) : State × Answer := readRequest body (fun _ => []) s

/-- The paused mark set or cleared. -/
def answerPause (on : Bool) (body : List Byte) (s : State) : State × Answer :=
  if body.isEmpty then (s.setLink { s.link with paused := on }, .bare .ok) else (s, .bare .form)

/-- PAUSE NOTICES (R178 b). -/
def answerPauseNotices (body : List Byte) (s : State) : State × Answer := answerPause true body s

/-- RESUME NOTICES (R178 c). -/
def answerResumeNotices (body : List Byte) (s : State) : State × Answer := answerPause false body s

/-- PING as a command. -/
def execPing (tag : Byte) (body : List Byte) (s : State) : Host.Outcome State Fault Refusal :=
  submit 0x01 tag body (answerPing body) s

/-- PAUSE NOTICES as a command. -/
def execPauseNotices (tag : Byte) (body : List Byte) (s : State) : Host.Outcome State Fault Refusal :=
  submit 0x05 tag body (answerPauseNotices body) s

/-- RESUME NOTICES as a command. -/
def execResumeNotices (tag : Byte) (body : List Byte) (s : State) : Host.Outcome State Fault Refusal :=
  submit 0x06 tag body (answerResumeNotices body) s

/-! ### The kind table (section 11.5) -/

/-- The block's answer to a request of a kind, or none for a kind that the table does not list. -/
def answerByKind (kind tag : Byte) (body : List Byte) : Option (State → State × Answer) :=
  match kind.toNat with
  | 0x01 => some (answerPing body)
  | 0x02 => some (answerReadStatus body)
  | 0x03 => some (answerSetMode body)
  | 0x04 => some (answerRestart body)
  | 0x05 => some (answerPauseNotices body)
  | 0x06 => some (answerResumeNotices body)
  | 0x10 => some (answerWriteSetting body)
  | 0x11 => some (answerReadSetting body)
  | 0x12 => some (answerWriteGeometry body)
  | 0x13 => some (answerReadGeometry body)
  | 0x14 => some (answerWriteTariffWindows body)
  | 0x15 => some (answerReadTariffWindows body)
  | 0x16 => some (answerCommitSettings tag body)
  | 0x17 => some (answerSetClock body)
  | 0x18 => some (answerReadClock body)
  | 0x20 => some (answerReadLevel body)
  | 0x21 => some (answerSimulateInputs body)
  | 0x22 => some (answerReadPlan body)
  | 0x23 => some (answerBoost body)
  | 0x24 => some (answerCancelBoost body)
  | 0x25 => some (answerReadPumps body)
  | 0x26 => some (answerLockPump body)
  | 0x27 => some (answerUnlockPump body)
  | 0x28 => some (answerMoveValve tag body)
  | 0x29 => some (answerHomeValve tag body)
  | 0x2A => some (answerStopValve body)
  | 0x2B => some (answerReadValves body)
  | 0x2C => some (answerReadGuard body)
  | 0x2D => some (answerClearTrip body)
  | 0x2E => some (answerReadZones body)
  | 0x2F => some (answerReadLoads body)
  | 0x30 => some (answerQueryAlarm body)
  | 0x31 => some (answerAckAlarm body)
  | 0x32 => some (answerReadAlarms body)
  | 0x33 => some (answerReadTrend body)
  | 0x34 => some (answerClearTrend tag body)
  | 0x35 => some (answerReadCounters body)
  | 0x36 => some (answerSetCounter body)
  | 0x37 => some (answerResetCounter body)
  | _ => none

/-- A request carried out by its kind (R177 a to d). -/
def carryOutRequest (r : Request) (s : State) : State :=
  match answerByKind r.kind r.tag r.body with
  | some answer => carryOut r.kind r.tag answer s
  | none => carryOutUnknown r.kind r.tag s

/-- The request at the head of the queue leaves it and is carried out while the reply slot is empty (R177). -/
def serveQueue (s : State) : State :=
  match s.link.slot, s.link.queue with
  | none, r :: rest => carryOutRequest r (s.setLink { s.link with queue := rest })
  | _, _ => s

/-- UNKNOWN_KIND (R177 a): a request whose kind the table does not list is answered UNKNOWN; a kind that it does list is
carried out as that request (log 27). -/
def execUnknownKind (kind tag : Byte) (body : List Byte) (s : State) : Host.Outcome State Fault Refusal :=
  .next (if s.clearToAnswer then carryOutRequest ⟨kind, tag, body⟩ s else s.enqueue ⟨kind, tag, body⟩)

/-! ### The receiver (R176, R179) -/

/-- The end of a silence in the event of a good frame (R179). -/
def State.endSilence (s : State) : State :=
  if s.link.silence then
    let s := s.setLink { s.link with silence := false, flags := s.link.flags.raise .silent }
    let x := silenceHanded false s.plant
    s.act (x.1, .cond .hostSilent false :: x.2)
  else s

/-- A good frame taken (R176, R179): supervision restarts, a silence ends, the request joins the queue or is dropped, and
the queue is served. -/
def State.goodFrame (s : State) (r : Request) : State :=
  serveQueue ((s.setLink { s.link with rx := none, supervision := 0 }).endSilence.enqueue r)

/-- A frame dropped (R176): the receiver returns to HUNTING. -/
def State.dropFrame (s : State) (f : LinkFlag) : State := (s.setLink { s.link with rx := none }).linkFault f

/-- A length byte that the receiver accepts (R175 b). -/
def lengthAccepted (b : Byte) : Bool := 2 ≤ b.toNat && b.toNat ≤ Config.lengthTop

/-- The bytes from the length byte to the end of the check (R175). -/
def frameLength (bs : List Byte) : Nat := (bs.headD 0).toNat + 3

/-- A complete run of bytes after the lead: whether its check is right (R175). -/
def checkRight (bs : List Byte) : Bool :=
  let n := bs.length - 2
  u16 (crc (bs.take n)).toNat == bs.drop n

/-- The request that a complete run of bytes carries (R175). -/
def requestIn (bs : List Byte) : Request := ⟨bs.getD 1 0, bs.getD 2 0, (bs.drop 3).take (bs.length - 5)⟩

/-- One byte taken by the receiver (R176). -/
def receiveByte (s : State) (b : Byte) : State :=
  match s.link.rx with
  | none => if b = Config.leadByte then s.setLink { s.link with rx := some [] } else s
  | some bs =>
    let bs := bs ++ [b]
    if bs.length = 1 && !lengthAccepted b then s.dropFrame .check
    else if bs.length < frameLength bs then s.setLink { s.link with rx := some bs }
    else if checkRight bs then s.goodFrame (requestIn bs)
    else s.dropFrame .check

/-- RECEIVE_FRAME (R176): bytes arrive without a gap and are taken one after another. -/
def execReceiveFrame (bytes : List Byte) (s : State) : Host.Outcome State Fault Refusal := .next (bytes.foldl receiveByte s)

/-- RECEIVE_GAP_TIMEOUT (R176): a partial frame is dropped for a gap; in HUNTING there is none. -/
def execReceiveGapTimeout (s : State) : Host.Outcome State Fault Refusal :=
  .next (if s.link.rx.isSome then s.dropFrame .gap else s)

/-! ### Supervision (R179) -/

/-- Silence begins (R179 a to d). -/
def beginSilence (s : State) : State :=
  let s := s.setLink { s.link with silence := true, paused := false, supervision := s.env.cfg.set.supervision }
  let x := silenceHanded true s.plant
  s.act (x.1, .cond .hostSilent true :: .endBoost .silent :: x.2)

/-- SILENCE_START (R179): the supervision timer has reached the period. -/
def execSilenceStart (s : State) : Host.Outcome State Fault Refusal :=
  .next (if s.env.cfg.set.supervision != 0 && !s.link.silence then beginSilence s else s)

/-! ### The transmitter (R178) -/

/-- A frame put on the line. -/
def State.send (s : State) (bytes : List Byte) (after : After) : State :=
  s.setLink { s.link with sending := some ⟨bytes, after⟩ }

/-- The reply in the slot sent (R178 a): the slot empties, and the next request may leave the queue. -/
def sendReply (s : State) (r : Reply) : State :=
  serveQueue ((s.setLink { s.link with slot := none }).send (frameBytes r.kind r.tag r.body) r.after)

/-- The notice at the head of the queue sent (R178 b). -/
def sendNotice (s : State) (n : Notice) (rest : List Notice) : State :=
  (s.setPlant (s.plant.setTelem { s.plant.telem with queue := rest })).send (frameBytes n.kind.byte n.tag n.body) .nothing

/-- TRANSMIT_NEXT_FRAME (R178): with the line free, the reply first, then the head of the notice queue unless notices are
paused, otherwise nothing. -/
def execTransmitNextFrame (s : State) : Host.Outcome State Fault Refusal :=
  .next (
    if s.link.sending.isSome then s
    else
      match s.link.slot, s.plant.telem.queue, s.link.paused with
      | some r, _, _ => sendReply s r
      | none, n :: rest, false => sendNotice s n rest
      | _, _, _ => s)

/-- FRAME_SENT (R174, R178, R189): the line is free; the restart of RESTART or the new line rate follows. -/
def execFrameSent (s : State) : Host.Outcome State Fault Refusal :=
  .next (
    match s.link.sending with
    | none => s
    | some x =>
      let s := s.setLink { s.link with sending := none }
      match x.after with
      | .nothing => s
      | .restart => restart .request s
      | .lineRate rate => s.setLink { s.link with rate := rate, rx := none })

end Sys2Proof.Machine
end

