-- ==== Sys2Proof/Machine/Dispatch.lean ====
section
/-! DEFINITION. The dispatch of the commands: one arm for each constructor of `Instr`, one call of its meaning. -/

namespace Sys2Proof.Machine

def exec (i : Instr) (s : State) : Host.Outcome State Fault Refusal :=
  match i with
  | .powerOn => Sys2Proof.Machine.execPowerOn s
  | .supplyDipRestart => Sys2Proof.Machine.execSupplyDipRestart s
  | .resetLine => Sys2Proof.Machine.execResetLine s
  | .ping tag body => Sys2Proof.Machine.execPing tag body s
  | .readStatus tag body => Sys2Proof.Machine.execReadStatus tag body s
  | .setMode tag body => Sys2Proof.Machine.execSetMode tag body s
  | .restart tag body => Sys2Proof.Machine.execRestart tag body s
  | .pauseNotices tag body => Sys2Proof.Machine.execPauseNotices tag body s
  | .resumeNotices tag body => Sys2Proof.Machine.execResumeNotices tag body s
  | .writeSetting tag body => Sys2Proof.Machine.execWriteSetting tag body s
  | .readSetting tag body => Sys2Proof.Machine.execReadSetting tag body s
  | .writeGeometry tag body => Sys2Proof.Machine.execWriteGeometry tag body s
  | .readGeometry tag body => Sys2Proof.Machine.execReadGeometry tag body s
  | .writeTariffWindows tag body => Sys2Proof.Machine.execWriteTariffWindows tag body s
  | .readTariffWindows tag body => Sys2Proof.Machine.execReadTariffWindows tag body s
  | .commitSettings tag body => Sys2Proof.Machine.execCommitSettings tag body s
  | .commitDone pass => Sys2Proof.Machine.execCommitDone pass s
  | .setClock tag body => Sys2Proof.Machine.execSetClock tag body s
  | .readClock tag body => Sys2Proof.Machine.execReadClock tag body s
  | .readLevel tag body => Sys2Proof.Machine.execReadLevel tag body s
  | .simulateInputs tag body => Sys2Proof.Machine.execSimulateInputs tag body s
  | .readPlan tag body => Sys2Proof.Machine.execReadPlan tag body s
  | .boost tag body => Sys2Proof.Machine.execBoost tag body s
  | .cancelBoost tag body => Sys2Proof.Machine.execCancelBoost tag body s
  | .readPumps tag body => Sys2Proof.Machine.execReadPumps tag body s
  | .lockPump tag body => Sys2Proof.Machine.execLockPump tag body s
  | .unlockPump tag body => Sys2Proof.Machine.execUnlockPump tag body s
  | .moveValve tag body => Sys2Proof.Machine.execMoveValve tag body s
  | .homeValve tag body => Sys2Proof.Machine.execHomeValve tag body s
  | .stopValve tag body => Sys2Proof.Machine.execStopValve tag body s
  | .readValves tag body => Sys2Proof.Machine.execReadValves tag body s
  | .readGuard tag body => Sys2Proof.Machine.execReadGuard tag body s
  | .clearTrip tag body => Sys2Proof.Machine.execClearTrip tag body s
  | .readZones tag body => Sys2Proof.Machine.execReadZones tag body s
  | .readLoads tag body => Sys2Proof.Machine.execReadLoads tag body s
  | .queryAlarm tag body => Sys2Proof.Machine.execQueryAlarm tag body s
  | .ackAlarm tag body => Sys2Proof.Machine.execAckAlarm tag body s
  | .readAlarms tag body => Sys2Proof.Machine.execReadAlarms tag body s
  | .readTrend tag body => Sys2Proof.Machine.execReadTrend tag body s
  | .clearTrend tag body => Sys2Proof.Machine.execClearTrend tag body s
  | .clearTrendDone => Sys2Proof.Machine.execClearTrendDone s
  | .readCounters tag body => Sys2Proof.Machine.execReadCounters tag body s
  | .setCounter tag body => Sys2Proof.Machine.execSetCounter tag body s
  | .resetCounter tag body => Sys2Proof.Machine.execResetCounter tag body s
  | .unknownKind kind tag body => Sys2Proof.Machine.execUnknownKind kind tag body s
  | .receiveFrame bytes => Sys2Proof.Machine.execReceiveFrame bytes s
  | .receiveGapTimeout => Sys2Proof.Machine.execReceiveGapTimeout s
  | .silenceStart => Sys2Proof.Machine.execSilenceStart s
  | .transmitNextFrame => Sys2Proof.Machine.execTransmitNextFrame s
  | .frameSent => Sys2Proof.Machine.execFrameSent s
  | .transducerSample raw => Sys2Proof.Machine.execTransducerSample raw s
  | .levelMinuteTimer => Sys2Proof.Machine.execLevelMinuteTimer s
  | .floatContactChange f w => Sys2Proof.Machine.execFloatContactChange f w s
  | .floatDebounceExpiry f => Sys2Proof.Machine.execFloatDebounceExpiry f s
  | .clockMinute => Sys2Proof.Machine.execClockMinute s
  | .tariffContactChange c => Sys2Proof.Machine.execTariffContactChange c s
  | .tariffDebounceExpiry => Sys2Proof.Machine.execTariffDebounceExpiry s
  | .lineMinuteTick => Sys2Proof.Machine.execLineMinuteTick s
  | .spacingTimerElapsed => Sys2Proof.Machine.execSpacingTimerElapsed s
  | .feedbackTimeExpiry p => Sys2Proof.Machine.execFeedbackTimeExpiry p s
  | .runFeedbackChange p f => Sys2Proof.Machine.execRunFeedbackChange p f s
  | .feedbackWithoutCommand p => Sys2Proof.Machine.execFeedbackWithoutCommand p s
  | .simulatedFeedbackChange p => Sys2Proof.Machine.execSimulatedFeedbackChange p s
  | .restEnd p => Sys2Proof.Machine.execRestEnd p s
  | .stagnationMinute => Sys2Proof.Machine.execStagnationMinute s
  | .valveStep v endStop => Sys2Proof.Machine.execValveStep v endStop s
  | .fillMinuteTimer => Sys2Proof.Machine.execFillMinuteTimer s
  | .inflowPulse => Sys2Proof.Machine.execInflowPulse s
  | .simulatedInflowPulse => Sys2Proof.Machine.execSimulatedInflowPulse s
  | .lowWetTimerExpiry => Sys2Proof.Machine.execLowWetTimerExpiry s
  | .releaseTimerExpiry => Sys2Proof.Machine.execReleaseTimerExpiry s
  | .runOnTimerExpiry => Sys2Proof.Machine.execRunOnTimerExpiry s
  | .autoClearTimerExpiry => Sys2Proof.Machine.execAutoClearTimerExpiry s
  | .sensorRead z1 z2 z3 z4 air => Sys2Proof.Machine.execSensorRead z1 z2 z3 z4 air s
  | .heaterTimerExpiry z => Sys2Proof.Machine.execHeaterTimerExpiry z s
  | .fallbackPhaseChange z => Sys2Proof.Machine.execFallbackPhaseChange z s
  | .freezeTimerMinute z => Sys2Proof.Machine.execFreezeTimerMinute z s
  | .circRetryTimerExpiry => Sys2Proof.Machine.execCircRetryTimerExpiry s
  | .circRunCompletion => Sys2Proof.Machine.execCircRunCompletion s
  | .circWaitTimerExpiry => Sys2Proof.Machine.execCircWaitTimerExpiry s
  | .trendIntervalTimer => Sys2Proof.Machine.execTrendIntervalTimer s
  | .reportTimerExpiry => Sys2Proof.Machine.execReportTimerExpiry s

end Sys2Proof.Machine
end

