-- ==== Sys2Proof/Machine/Tick.lean ====
section
/-! DEFINITION. One second of the part, which is what a step does on an empty queue (log 1): every counter of seconds moves
on, and the events that fall due with it join the queue as the commands of the table. Events that carry something from
outside the part (a sample, a reading, a contact, a byte) and the steps of the valves are not brought by the second. -/

namespace Sys2Proof.Machine

/-- A command that falls due, or none. -/
def due (holds : Bool) (c : Instr) : List Instr := if holds then [c] else []

/-- A counter of seconds one further, stopping at the top of two bytes. -/
def second16 (n : Nat) : Nat := satAdd maxU16 n 1

/-- A counter of seconds one further, stopping at the top of four bytes. -/
def second32 (n : Nat) : Nat := satAdd maxU32 n 1

/-! ### Level, clock and tariff units -/

/-- A wait for a debounce one second further (R12, R26). -/
def waitMore (d : Option Nat) : Option Nat := d.map (· + 1)

/-- A wait has lasted its time. -/
def waited (d : Option Nat) (top : Nat) : Bool := d.any (top ≤ ·)

/-- A second of the level unit (R10, R12). -/
def Level.tick (lv : Level) : Level :=
  { lv with minuteSecs := lv.minuteSecs + 1
            low := { lv.low with debounce := waitMore lv.low.debounce }
            overFloat := { lv.overFloat with debounce := waitMore lv.overFloat.debounce } }

/-- What falls due in the level unit. -/
def Level.dues (lv : Level) : List Instr :=
  due (60 ≤ lv.minuteSecs) .levelMinuteTimer ++ due (waited lv.low.debounce Config.floatDebounce) (.floatDebounceExpiry .low) ++
    due (waited lv.overFloat.debounce Config.floatDebounce) (.floatDebounceExpiry .overFloat)

/-- A second of the clock and tariff unit (R21, R26): second 59 stands until CLOCK_MINUTE is carried out. -/
def Clock.tick (c : Clock) : Clock :=
  { c with second := if c.isSet && c.second < 59 then c.second + 1 else c.second
           lineDebounce := waitMore c.lineDebounce
           lineSecs := c.lineSecs + 1 }

/-- What falls due in the clock and tariff unit, `old` standing before the second. A tick of the line's minute counter comes
before a change of the reported state, from which the counts and the counter begin afresh (R26). -/
def Clock.dues (old c : Clock) : List Instr :=
  due (old.isSet && 59 ≤ old.second) .clockMinute ++ due (60 ≤ c.lineSecs) .lineMinuteTick ++
    due (waited c.lineDebounce Config.tariffDebounce) .tariffDebounceExpiry

/-! ### Pump unit (R51, R53, R64, R66, R68, R72) -/

/-- A second of one pump. DESIGN CHOICE (log 73): nothing of a pump that is not fitted counts, its state timer neither (R51, R69). -/
def tickPump (e : Env) (P : Plant) (p : Pump) (r : PumpRec) : PumpRec :=
  if fitted e.cfg.set p then
    { r with timer := second32 r.timer
             run := r.run.map fun x => { x with secs := second32 x.secs }
             simSecs := min (Config.simFeedbackSeconds + 1) (r.simSecs + 1)
             feedbackSecs := if r.state.opensContactor && feedbackOf e P p == Presence.present
                             then second16 r.feedbackSecs else 0 }
  else r

/-- What falls due for one fitted pump. -/
def pumpDues (e : Env) (p : Pump) (r : PumpRec) : List Instr :=
  let c := e.cfg.set
  if fitted c p then
    due (e.sys.mode == Mode.commission && r.simSecs == Config.simFeedbackSeconds && r.simFeedback != followsCommand r)
      (.simulatedFeedbackChange p) ++
    due (r.state == PumpState.starting && r.timer == c.feedbackTime) (.feedbackTimeExpiry p) ++
    due (r.state.opensContactor && c.feedbackTime ≤ r.feedbackSecs) (.feedbackWithoutCommand p) ++
    due (r.state == PumpState.resting && c.restTime ≤ r.timer) (.restEnd p)
  else []

/-- A second of the pump unit. -/
def tickPumps (e : Env) (P : Plant) : Pumps :=
  let u := P.pumps
  { u with recs := ⟨tickPump e P .p1 u.recs.p1, tickPump e P .p2 u.recs.p2, tickPump e P .p3 u.recs.p3⟩
           spacing := second16 u.spacing
           stagnationSecs := if anyRunning P then 0 else u.stagnationSecs + 1 }

/-- The spacing timer has reached the start spacing, `old` standing before the second. -/
def spacingDues (c : Settings) (old u : Pumps) : List Instr :=
  due (old.spacing < c.startSpacing && c.startSpacing ≤ u.spacing) .spacingTimerElapsed

/-- What else falls due in the pump unit. -/
def pumpsDues (e : Env) (u : Pumps) : List Instr :=
  allPumps.flatMap (fun p => pumpDues e p (u.recs.get p)) ++ due (60 ≤ u.stagnationSecs) .stagnationMinute

/-! ### Fill unit and overflow guard (R94, R107, R117, R120, R126, R129) -/

/-- A count of minutes with the seconds of its present minute, one second further. -/
def minuteMore (top minutes secs : Nat) : Nat × Nat :=
  if 60 ≤ secs + 1 then (satAdd top minutes 1, 0) else (minutes, secs + 1)

/-- A second of the fill unit. -/
def tickFill (e : Env) (f : Fill) : Fill :=
  let m := if e.level.low.reported = .wet then minuteMore maxU16 f.lowWet f.lowWetSecs else (f.lowWet, f.lowWetSecs)
  { f with minuteSecs := if f.windowOpen then f.minuteSecs + 1 else f.minuteSecs
           lowWet := m.1
           lowWetSecs := m.2 }

/-- What falls due in the fill unit, `old` standing before the second. -/
def fillDues (old f : Fill) : List Instr :=
  due (f.windowOpen && 60 ≤ f.minuteSecs) .fillMinuteTimer ++
    due (old.lowWet < Config.lowWetMinutes && Config.lowWetMinutes ≤ f.lowWet) .lowWetTimerExpiry

/-- A second of a running timer of seconds. -/
def Timer.tick (t : Timer) : Timer := if t.running then { t with value := t.value + 1 } else t

/-- A running timer has reached its end. -/
def Timer.ended (t : Timer) (top : Nat) : Bool := t.running && top ≤ t.value

/-- A second of the guard. -/
def tickGuard (g : Guard) : Guard :=
  let k := g.core
  let a := minuteMore maxU16 g.age g.ageSecs
  let m := if k.autoClear.running then minuteMore maxU16 k.autoClear.value k.autoClearSecs
           else (k.autoClear.value, k.autoClearSecs)
  { g with core := { k with release := k.release.tick, runOn := k.runOn.tick
                            autoClear := { k.autoClear with value := m.1 }, autoClearSecs := m.2 }
           age := a.1
           ageSecs := a.2 }

/-- What falls due in the guard. -/
def guardDues (k : GuardCore) : List Instr :=
  due (k.release.ended Config.releaseSeconds) .releaseTimerExpiry ++ due (k.runOn.ended Config.runOnSeconds) .runOnTimerExpiry ++
    due (k.autoClear.ended Config.autoClearMinutes) .autoClearTimerExpiry

/-! ### Frost unit (R136, R140, R142, R143) -/

/-- A second of a fallback phase. -/
def FallbackPhase.tick (f : FallbackPhase) : FallbackPhase :=
  let m := minuteMore maxU16 f.minutes f.secs
  ⟨f.on, m.1, m.2⟩

/-- A second of one zone. -/
def tickZone (e : Env) (P : Plant) (z : Zone) (r : ZoneRec) : ZoneRec :=
  { r with timer := second16 r.timer
           onSecs := if heaterOn P z then second32 r.onSecs else r.onSecs
           freezeSecs := if freezeCounts e P z then r.freezeSecs + 1 else r.freezeSecs
           fallback := r.fallback.map FallbackPhase.tick }

/-- The heater timer of one zone has reached its minimum time, `old` standing before the second. -/
def heaterDues (z : Zone) (old r : ZoneRec) : List Instr :=
  due (old.timer < r.timer && ((r.state == ZoneState.off && r.timer == Config.minimumOff) ||
      (r.state == ZoneState.heat && r.timer == Config.minimumOn))) (.heaterTimerExpiry z)

/-- What else falls due for one zone. -/
def zoneDues (z : Zone) (r : ZoneRec) : List Instr :=
  due (r.fallback.any fun f => Config.fallbackMinutes ≤ f.minutes) (.fallbackPhaseChange z) ++
    due (60 ≤ r.freezeSecs) (.freezeTimerMinute z)

/-- A second of the circulation record. -/
def Circ.tick (c : Circ) : Circ :=
  match c.state with
  | .quiet => c
  | .demanded => { c with wait := c.wait + 1 }
  | .run => { c with run := c.run + 1 }
  | .refused => { c with retry := c.retry + 1 }

/-- What falls due in the circulation record. -/
def circDues (e : Env) (c : Circ) : List Instr :=
  match c.state with
  | .quiet => []
  | .demanded => due (Config.circWaitSeconds ≤ c.wait) .circWaitTimerExpiry
  | .run => due (e.cfg.set.circRunTime * 60 ≤ c.run) .circRunCompletion
  | .refused => due (Config.circWaitSeconds ≤ c.retry) .circRetryTimerExpiry

/-- A second of the frost unit. -/
def tickFrost (e : Env) (P : Plant) : Frost :=
  let f := P.frost
  { f with zones := ⟨tickZone e P .z1 f.zones.z1, tickZone e P .z2 f.zones.z2, tickZone e P .z3 f.zones.z3,
                     tickZone e P .z4 f.zones.z4⟩
           circ := f.circ.tick }

/-- What falls due in the frost unit besides the heater timers. -/
def frostDues (e : Env) (f : Frost) : List Instr :=
  allZones.flatMap (fun z => zoneDues z (f.zones.get z)) ++ circDues e f.circ

/-! ### Telemetry and link units (R160, R163, R164, R179), simulated inflow (R184) -/

/-- A second of the telemetry unit. -/
def Telem.tick (t : Telem) : Telem :=
  { t with interval := t.interval + 1
           report := if t.batch.isEmpty then t.report else t.report + 1
           clearSecs := if t.clear.isSome then t.clearSecs + 1 else t.clearSecs }

/-- What falls due in the telemetry unit. -/
def telemDues (c : Settings) (t : Telem) : List Instr :=
  due (t.clear.isSome && Config.clearSeconds ≤ t.clearSecs) .clearTrendDone ++
    due (c.trendInterval ≤ t.interval) .trendIntervalTimer ++
    due (!t.batch.isEmpty && c.reportPeriod ≤ t.report) .reportTimerExpiry

/-- A second of supervision: the timer stops while the computer is silent. -/
def Link.tick (l : Link) : Link := { l with supervision := if l.silence then l.supervision else second32 l.supervision }

/-- What falls due in the link unit. -/
def linkDues (c : Settings) (l : Link) : List Instr :=
  due (c.supervision != 0 && !l.silence && c.supervision ≤ l.supervision) .silenceStart

/-- A second of simulated inflow: the rate, in litres a minute, adds as many sixtieths of a litre (log 16). -/
def Sys.tick (y : Sys) : Sys :=
  if y.mode = .commission then { y with sim := { y.sim with total60 := y.sim.total60 + y.sim.inflowRate } } else y

/-- The simulated pulses that the running total holds. -/
def inflowDues (c : Settings) (y : Sys) : List Instr :=
  if y.mode = .commission && y.sim.inflowRate != 0 then
    List.replicate (y.sim.total60 / (60 * c.litresPerPulse)) .simulatedInflowPulse
  else []

/-! ### The whole part -/

/-- The environment one second on. -/
def Env.tick (e : Env) : Env := { e with level := e.level.tick, clock := e.clock.tick, sys := e.sys.tick }

/-- The acting and reporting blocks one second on. -/
def Plant.tick (e : Env) (P : Plant) : Plant :=
  { P with pumps := tickPumps e P, guard := tickGuard P.guard, fill := tickFill e P.fill, frost := tickFrost e P,
           telem := P.telem.tick }

/-- Everything that falls due with a second that took `s` to `t`. DESIGN CHOICE (log 1): the ends of the start spacing and of
the heaters' minimum times come first, since an end that sets its timer must find it as the second left it; then the other
ends, block by block. -/
def duesOf (s t : State) : List Instr :=
  let e := t.env
  let old := s.plant.frost.zones
  let zones := t.plant.frost.zones
  spacingDues e.cfg.set s.plant.pumps t.plant.pumps ++
    allZones.flatMap (fun z => heaterDues z (old.get z) (zones.get z)) ++
    e.level.dues ++ Clock.dues s.env.clock e.clock ++ pumpsDues e t.plant.pumps ++
    fillDues s.plant.fill t.plant.fill ++ inflowDues e.cfg.set e.sys ++ guardDues t.plant.guard.core ++
    frostDues e t.plant.frost ++ telemDues e.cfg.set t.plant.telem ++ linkDues e.cfg.set t.link

/-- The part one second on, nothing carried out yet. -/
def State.advanced (s : State) : State :=
  { s with env := s.env.tick, plant := s.plant.tick s.env, link := s.link.tick }

/-- One second of an idle part: every counter moves on, and what falls due waits in the queue. -/
def tick (s : State) : State := { s.advanced with pending := duesOf s s.advanced }

end Sys2Proof.Machine
end

