-- ==== Sys2Proof/WellFormed.lean ====
section
/-! DEFINITION. The commands that can reach the part: a request's body fits its frame (R175), an unknown kind is none of the
kind table (section 11.5), a sensor answers a temperature of two bytes (R133, R184). The meanings are total: a term that is
not well formed has a meaning too. -/

namespace Sys2Proof

/-- The kinds of section 11.5's kind table that the station computer sends. -/
def knownKinds : List Byte :=
  [0x01, 0x02, 0x03, 0x04, 0x05, 0x06, 0x10, 0x11, 0x12, 0x13, 0x14, 0x15, 0x16, 0x17, 0x18] ++
  [0x20, 0x21, 0x22, 0x23, 0x24, 0x25, 0x26, 0x27, 0x28, 0x29, 0x2A, 0x2B, 0x2C, 0x2D, 0x2E, 0x2F] ++
  [0x30, 0x31, 0x32, 0x33, 0x34, 0x35, 0x36, 0x37]

/-- The longest body of a frame: the length byte counts kind, tag and body (R175). -/
def bodyTop : Nat := Config.lengthTop - 2

/-- A body that a frame can carry. -/
def wfBody (body : List Byte) : Bool := body.length ≤ bodyTop

/-- An answer that a sensor's two bytes can carry (R184: 0x8000 stands for no answer). -/
def wfAnswer : Option Int → Bool
  | some t => -32767 ≤ t && t ≤ 32767
  | none => true

/-- A well-formed command. -/
def Instr.wf : Instr → Bool
  | .ping _ b | .readStatus _ b | .setMode _ b | .restart _ b | .pauseNotices _ b | .resumeNotices _ b => wfBody b
  | .writeSetting _ b | .readSetting _ b | .writeGeometry _ b | .readGeometry _ b => wfBody b
  | .writeTariffWindows _ b | .readTariffWindows _ b | .commitSettings _ b | .setClock _ b | .readClock _ b => wfBody b
  | .readLevel _ b | .simulateInputs _ b | .readPlan _ b | .boost _ b | .cancelBoost _ b => wfBody b
  | .readPumps _ b | .lockPump _ b | .unlockPump _ b | .moveValve _ b | .homeValve _ b | .stopValve _ b => wfBody b
  | .readValves _ b | .readGuard _ b | .clearTrip _ b | .readZones _ b | .readLoads _ b => wfBody b
  | .queryAlarm _ b | .ackAlarm _ b | .readAlarms _ b | .readTrend _ b | .clearTrend _ b => wfBody b
  | .readCounters _ b | .setCounter _ b | .resetCounter _ b => wfBody b
  | .unknownKind k _ b => wfBody b && !knownKinds.contains k
  | .receiveFrame bytes => !bytes.isEmpty
  | .sensorRead z1 z2 z3 z4 air => wfAnswer z1 && wfAnswer z2 && wfAnswer z3 && wfAnswer z4 && wfAnswer air
  | .powerOn | .supplyDipRestart | .resetLine | .commitDone _ | .clearTrendDone => true
  | .receiveGapTimeout | .silenceStart | .transmitNextFrame | .frameSent => true
  | .transducerSample _ | .levelMinuteTimer | .floatContactChange _ _ | .floatDebounceExpiry _ => true
  | .clockMinute | .tariffContactChange _ | .tariffDebounceExpiry | .lineMinuteTick => true
  | .spacingTimerElapsed | .feedbackTimeExpiry _ | .runFeedbackChange _ _ | .feedbackWithoutCommand _ => true
  | .simulatedFeedbackChange _ | .restEnd _ | .stagnationMinute | .valveStep _ _ => true
  | .fillMinuteTimer | .inflowPulse | .simulatedInflowPulse | .lowWetTimerExpiry => true
  | .releaseTimerExpiry | .runOnTimerExpiry | .autoClearTimerExpiry => true
  | .heaterTimerExpiry _ | .fallbackPhaseChange _ | .freezeTimerMinute _ => true
  | .circRetryTimerExpiry | .circRunCompletion | .circWaitTimerExpiry | .trendIntervalTimer | .reportTimerExpiry => true

end Sys2Proof
end

