-- ==== Sys2Proof/Safety.lean ====
section
/-! DEFINITION. What claims about the part speak of: the request that a command carries, the standing of the blocks in which an
event has only its own effect, and the invariants of a sound state. -/

namespace Sys2Proof.Machine

/-! ### Requests -/

/-- The request that a command carries, of a kind of the kind table (section 11.5). -/
def requestOf : Instr → Option Request
  | .ping t b => some ⟨0x01, t, b⟩
  | .readStatus t b => some ⟨0x02, t, b⟩
  | .setMode t b => some ⟨0x03, t, b⟩
  | .restart t b => some ⟨0x04, t, b⟩
  | .pauseNotices t b => some ⟨0x05, t, b⟩
  | .resumeNotices t b => some ⟨0x06, t, b⟩
  | .writeSetting t b => some ⟨0x10, t, b⟩
  | .readSetting t b => some ⟨0x11, t, b⟩
  | .writeGeometry t b => some ⟨0x12, t, b⟩
  | .readGeometry t b => some ⟨0x13, t, b⟩
  | .writeTariffWindows t b => some ⟨0x14, t, b⟩
  | .readTariffWindows t b => some ⟨0x15, t, b⟩
  | .commitSettings t b => some ⟨0x16, t, b⟩
  | .setClock t b => some ⟨0x17, t, b⟩
  | .readClock t b => some ⟨0x18, t, b⟩
  | .readLevel t b => some ⟨0x20, t, b⟩
  | .simulateInputs t b => some ⟨0x21, t, b⟩
  | .readPlan t b => some ⟨0x22, t, b⟩
  | .boost t b => some ⟨0x23, t, b⟩
  | .cancelBoost t b => some ⟨0x24, t, b⟩
  | .readPumps t b => some ⟨0x25, t, b⟩
  | .lockPump t b => some ⟨0x26, t, b⟩
  | .unlockPump t b => some ⟨0x27, t, b⟩
  | .moveValve t b => some ⟨0x28, t, b⟩
  | .homeValve t b => some ⟨0x29, t, b⟩
  | .stopValve t b => some ⟨0x2A, t, b⟩
  | .readValves t b => some ⟨0x2B, t, b⟩
  | .readGuard t b => some ⟨0x2C, t, b⟩
  | .clearTrip t b => some ⟨0x2D, t, b⟩
  | .readZones t b => some ⟨0x2E, t, b⟩
  | .readLoads t b => some ⟨0x2F, t, b⟩
  | .queryAlarm t b => some ⟨0x30, t, b⟩
  | .ackAlarm t b => some ⟨0x31, t, b⟩
  | .readAlarms t b => some ⟨0x32, t, b⟩
  | .readTrend t b => some ⟨0x33, t, b⟩
  | .clearTrend t b => some ⟨0x34, t, b⟩
  | .readCounters t b => some ⟨0x35, t, b⟩
  | .setCounter t b => some ⟨0x36, t, b⟩
  | .resetCounter t b => some ⟨0x37, t, b⟩
  | _ => none

/-- The content of the reply to a READ request whose body is empty. -/
def readContentOf : Instr → Option (State → List Byte)
  | .ping _ [] => some fun _ => []
  | .readStatus _ [] => some statusContent
  | .readGeometry _ [] => some geometryContent
  | .readTariffWindows _ [] => some windowsContent
  | .readClock _ [] => some clockContent
  | .readLevel _ [] => some levelContent
  | .readPlan _ [] => some planContent
  | .readPumps _ [] => some pumpsContent
  | .readValves _ [] => some valvesContent
  | .readGuard _ [] => some guardContent
  | .readZones _ [] => some zonesContent
  | .readLoads _ [] => some loadsContent
  | .queryAlarm _ [] => some queryContent
  | .readCounters _ [] => some countersContent
  | _ => none

/-- The reply that stands in the slot after a request of a kind and tag was carried out on `s`: the result code, the link flags
that stood, the content. -/
def replyTo (s : State) (kind tag : Byte) (c : Code) (content : List Byte) (after : After) : Reply :=
  ⟨kind ||| 0x80, tag, u8 c.number ++ s.link.flags.byte :: content, after⟩

/-- The link unit with a reply in its slot and its flags reported. -/
def repliedLink (s : State) (r : Reply) : Link := { s.link with slot := some r, flags := .clear }

/-- A command changed nothing of the settings, the level unit, the clock, the modes, the pins, the link and the queue. -/
def SameOutside (s t : State) : Prop := t.env = s.env ∧ t.link = s.link ∧ t.pending = s.pending

/-! ### Standings in which an event has only its own effect -/

/-- No pump is CALLED, STARTING or RUNNING. -/
def pumpsQuiet (P : Plant) : Prop :=
  ∀ p, (P.pumps.recs.get p).state ≠ .called ∧ (P.pumps.recs.get p).state ≠ .starting ∧
    (P.pumps.recs.get p).state ≠ .running

/-- A guard evaluation would change nothing: the fast mark is as R121 tests it, and the table of R118 chooses the state and
reason in force. -/
def guardSettled (e : Env) (P : Plant) : Prop :=
  P.guard.core.fast = fastHolds e P ∧ chooseGuard e P.guard.core = (P.guard.core.state, P.guard.core.reason)

/-- R14: the level is GOOD and a float that is WET stands more than the tolerance above it, or one that is DRY more than the
tolerance below it. -/
def floatsDisagree (c : Settings) (lv : Level) : Prop :=
  let beyond := fun (f : Wet) (h : Nat) => (f = .wet ∧ lv.filtered + c.floatTol < h) ∨ (f = .dry ∧ h + c.floatTol < lv.filtered)
  lv.quality = .good ∧ (beyond lv.low.reported c.hLow ∨ beyond lv.overFloat.reported c.hOver)

/-! ### Invariants -/

/-- R44: the granted sum is within the cap in force. -/
def CapKept (s : State) : Prop := grantedSum s.env.cfg.set s.plant.load ≤ s.plant.load.cap

/-- R60: at most one pump is STARTING. -/
def OneStarting (s : State) : Prop :=
  ∀ p q, (s.plant.pumps.recs.get p).state = .starting → (s.plant.pumps.recs.get q).state = .starting → p = q

/-- A pump is available for automatic use (R54). -/
def available (s : State) (p : Pump) : Prop :=
  fitted s.env.cfg.set p = true ∧ (s.plant.pumps.recs.get p).state ≠ .lockout ∧ (s.plant.pumps.recs.get p).state ≠ .out

/-- R54: the duty list holds every pump that is available, none twice, and no other. -/
def DutyListSound (s : State) : Prop :=
  s.plant.pumps.duty.Nodup ∧ ∀ p, p ∈ s.plant.pumps.duty ↔ available s p

/-- What holds while a pump's contactor is closed: its claim is GRANTED (R52); it is on the duty list and called; the guard
stands in neither SHUT nor TRIP and has not handed the limit ZERO, and the mode is not SETUP (R56); the inlet's position is known,
and it and the target are at least P_open (R60). -/
def RunsRightly (s : State) (p : Pump) : Prop :=
  let P := s.plant
  let g := P.guard.core.state
  (P.load.pumps.get p).isGranted = true ∧ p ∈ P.pumps.duty ∧ (P.pumps.recs.get p).served ≠ .empty ∧
    g ≠ .shut ∧ g ≠ .trip ∧ P.pumps.limit ≠ .zero ∧ s.env.sys.mode ≠ .setup ∧
    (∃ x, P.valves.inlet.position = some x ∧ s.env.cfg.set.pOpen ≤ x) ∧
    ∃ y, P.valves.inlet.target = some y ∧ s.env.cfg.set.pOpen ≤ y

/-- R52, R56, R60: every STARTING or RUNNING pump runs rightly; the duty list and the limit last handed stand as they should.
A chain of hand-overs that was cut short at the model's bound (log 4) leaves its mark instead. -/
def PumpsSound (s : State) : Prop :=
  s.plant.cut = true ∨
    (DutyListSound s ∧ s.plant.pumps.limit = guardLimit s.plant.guard.core.state s.plant.guard.core.reason ∧
      ∀ p, (s.plant.pumps.recs.get p).state = .starting ∨ (s.plant.pumps.recs.get p).state = .running → RunsRightly s p)

/-- R116: the order of the setpoints under the tank top. -/
def Ordered (c : Settings) : Prop := c.lHigh < c.lHh ∧ c.lHh < c.lOver ∧ c.lOver ≤ c.lTop

/-- The order holds in the working settings, in the store and in a commit in flight. -/
def SetpointsOrdered (s : State) : Prop :=
  Ordered s.env.cfg.set ∧ (∀ w, s.env.sys.store.loadable = some w → Ordered w.set) ∧
    ∀ c, s.env.sys.commit = some c → Ordered c.snapshot.set

/-- R4, R5, R9: the window holds at most five values, and every level lies within the tank. -/
def LevelInTank (s : State) : Prop :=
  let lv := s.env.level
  let top := s.env.cfg.set.lTop
  lv.window.length ≤ 5 ∧ (∀ v ∈ lv.window, v ≤ top) ∧ lv.filtered ≤ top ∧ lv.held ≤ top

/-- R27: the tariff state in force is the one that an evaluation would give. -/
def TariffSound (s : State) : Prop := s.env.clock.tariff = tariffOf s.env.cfg s.env.clock

/-- The notices of one kind that wait. -/
def waitingOf (q : List Notice) (k : NoticeKind) : Nat := (q.filter fun n => n.kind == k).length

/-- R165, R166, R167: the places of the notice queue and the DONE load. -/
def QueueSound (s : State) : Prop :=
  let q := s.plant.telem.queue
  doneLoad s.env.sys s.plant ≤ 4 ∧ generalCount q ≤ 19 ∧ q.length ≤ 24 ∧ waitingOf q .alarm ≤ 1 ∧
    waitingOf q .status ≤ 1 ∧ waitingOf q .plan ≤ 1 ∧ ∀ i, waitingOf q (.counter i) ≤ 1

/-- R150, R161, R164, R177: the alarm table has its 24 records, the trend log, the open batch and the request queue keep their
places. -/
def BuffersSound (s : State) : Prop :=
  s.plant.alarms.table.length = 24 ∧ s.plant.telem.log.length ≤ 512 ∧ s.plant.telem.batch.length ≤ 11 ∧
    s.link.queue.length ≤ 4

end Sys2Proof.Machine
end

