-- ==== Sys2Proof/Certificates/Slice0/Obligations.lean ====
section
/-! DEFINITION. The statements for the provers, from the numbered rules of spec/. A statement about a next state names the state, or
says what it holds and what it leaves as it was. -/

open Sys2Proof Sys2Proof.Machine

/-! ### The step and the queue of commands -/

/-- A step carries out the command at the front of the queue, on the state with the queue's rest. -/
def Obligations.StepRunsFrontCommand : Prop :=
  ∀ (c : Instr) (rest : List Instr) (s : State), s.pending = c :: rest → step s = exec c { s with pending := rest }

/-- On an empty queue one second passes (the model's choice, log 1), and it carries out no command. Every counter that the second moves
is named, and nothing else moves: the minute timer of the level unit and the waits of the floats (R10, R12); the second of a SET clock,
the wait and the minute counter of the tariff line (R21, R26); the simulated litres of COMMISSION (R184); of every fitted pump the state
timer, the run, the simulated feedback's seconds and the time of a feedback PRESENT without a command (R51, R66 c, R72); the spacing
timer and the stagnation timer's minute (R53, R68); the fill unit's minute timer and the LOW wet timer (R94, R107); the guard's timers
and its age (R117, R120, R126, R129); of every zone the heater timer, the on seconds, the freeze timer's minute and the fallback phase
(R136, R140, R142); the circulation record (R143); the interval timer, the report timer and the seconds of a clear (R160, R163, R164);
supervision (R179). And every command that falls due waits, exactly where its time has come, and no other command does. (That the
seconds of a present minute, the tops of the counters and the sixtieths of a litre are fields of this form is the model's choice, logs
16, 18 and 35; that nothing of a pump that is not fitted counts is, too, log 73. Valves keep no timer.) -/
def Obligations.IdleSecondPasses : Prop :=
  ∀ s : State, s.pending = [] → ∃ t, step s = .next t ∧
    (let e := s.env
     let lv := e.level
     let k := e.clock
     let y := e.sys
     let P := s.plant
     let more := fun d : Option Nat => d.map (· + 1)
     t.env = { e with
       level := { lv with minuteSecs := lv.minuteSecs + 1, low := ⟨lv.low.reported, more lv.low.debounce⟩
                          overFloat := ⟨lv.overFloat.reported, more lv.overFloat.debounce⟩ }
       clock := { k with second := if k.isSet = true ∧ k.second < 59 then k.second + 1 else k.second
                         lineDebounce := more k.lineDebounce, lineSecs := k.lineSecs + 1 }
       sys := { y with sim := { y.sim with
         total60 := if y.mode = .commission then y.sim.total60 + y.sim.inflowRate else y.sim.total60 } } } ∧
     t.plant = { P with pumps := t.plant.pumps, guard := t.plant.guard, fill := t.plant.fill, frost := t.plant.frost
                        telem := t.plant.telem } ∧
     t.link = { s.link with
       supervision := if s.link.silence = true then s.link.supervision else min 4294967295 (s.link.supervision + 1) }) ∧
    (let c := s.env.cfg.set
     let u := s.plant.pumps
     let x := t.plant.pumps
     x = { u with recs := x.recs, spacing := min 65535 (u.spacing + 1), stagnationSecs := x.stagnationSecs } ∧
     ((∃ p, (u.recs.get p).state = .running) → x.stagnationSecs = 0) ∧
     ((∀ p, (u.recs.get p).state ≠ .running) → x.stagnationSecs = u.stagnationSecs + 1) ∧
     (Instr.spacingTimerElapsed ∈ t.pending ↔ u.spacing < c.startSpacing ∧ c.startSpacing ≤ x.spacing) ∧
     (Instr.stagnationMinute ∈ t.pending ↔ 60 ≤ x.stagnationSecs) ∧
     ∀ p,
       let r := u.recs.get p
       let q := x.recs.get p
       let isFitted := pumpNumber p ≤ c.pumpsFitted
       let isOpen := r.state = .off ∨ r.state = .called ∨ r.state = .resting
       let closed := r.state = .starting ∨ r.state = .running
       (¬ isFitted → q = r) ∧
       (isFitted → q = { r with
         timer := min 4294967295 (r.timer + 1), run := r.run.map fun z => ⟨z.start, min 4294967295 (z.secs + 1)⟩
         simSecs := min 3 (r.simSecs + 1)
         feedbackSecs := if isOpen ∧ feedbackOf s.env s.plant p = .present then min 65535 (r.feedbackSecs + 1) else 0 }) ∧
       (Instr.restEnd p ∈ t.pending ↔ isFitted ∧ r.state = .resting ∧ c.restTime ≤ q.timer) ∧
       (Instr.feedbackTimeExpiry p ∈ t.pending ↔ isFitted ∧ r.state = .starting ∧ q.timer = c.feedbackTime) ∧
       (Instr.feedbackWithoutCommand p ∈ t.pending ↔ isFitted ∧ isOpen ∧ c.feedbackTime ≤ q.feedbackSecs) ∧
       (Instr.simulatedFeedbackChange p ∈ t.pending ↔ isFitted ∧ s.env.sys.mode = .commission ∧ q.simSecs = 2 ∧
         r.simFeedback ≠ if closed then .present else .absent)) ∧
    (let minute := fun m n : Nat => if 60 ≤ n + 1 then (min 65535 (m + 1), 0) else (m, n + 1)
     let f := s.plant.fill
     let f' := t.plant.fill
     let low := if s.env.level.low.reported = .wet then minute f.lowWet f.lowWetSecs else (f.lowWet, f.lowWetSecs)
     let counts := fun x : Timer => if x.running = true then (⟨true, x.value + 1⟩ : Timer) else x
     let g := s.plant.guard
     let auto := if g.core.autoClear.running = true then minute g.core.autoClear.value g.core.autoClearSecs
       else (g.core.autoClear.value, g.core.autoClearSecs)
     let h := t.plant.guard.core
     f' = { f with minuteSecs := if f.windowOpen = true then f.minuteSecs + 1 else f.minuteSecs
                   lowWet := low.1, lowWetSecs := low.2 } ∧
     t.plant.guard = { g with
       core := { g.core with release := counts g.core.release, runOn := counts g.core.runOn
                             autoClear := ⟨g.core.autoClear.running, auto.1⟩, autoClearSecs := auto.2 }
       age := (minute g.age g.ageSecs).1, ageSecs := (minute g.age g.ageSecs).2 } ∧
     (Instr.fillMinuteTimer ∈ t.pending ↔ f.windowOpen = true ∧ 60 ≤ f'.minuteSecs) ∧
     (Instr.lowWetTimerExpiry ∈ t.pending ↔ f.lowWet < 10 ∧ 10 ≤ f'.lowWet) ∧
     (Instr.releaseTimerExpiry ∈ t.pending ↔ h.release.running = true ∧ 60 ≤ h.release.value) ∧
     (Instr.runOnTimerExpiry ∈ t.pending ↔ h.runOn.running = true ∧ 120 ≤ h.runOn.value) ∧
     (Instr.autoClearTimerExpiry ∈ t.pending ↔ h.autoClear.running = true ∧ 30 ≤ h.autoClear.value) ∧
     (∀ z,
       let o := s.plant.frost.sensors.get z
       let r := s.plant.frost.zones.get z
       let q := t.plant.frost.zones.get z
       let cold := (s.env.cfg.set.zone.get z).enabled = true ∧ o.faulted = false ∧
         o.reading.any (· < (s.env.cfg.set.zone.get z).critical) = true ∧ r.state ≠ .heat
       q = { r with
         timer := min 65535 (r.timer + 1)
         onSecs := if (s.plant.load.zones.get z).isGranted = true then min 4294967295 (r.onSecs + 1) else r.onSecs
         freezeSecs := if cold then r.freezeSecs + 1 else r.freezeSecs
         fallback := r.fallback.map fun x => ⟨x.on, (minute x.minutes x.secs).1, (minute x.minutes x.secs).2⟩ } ∧
       (Instr.heaterTimerExpiry z ∈ t.pending ↔
         (r.state = .off ∧ r.timer + 1 = 60) ∨ (r.state = .heat ∧ r.timer + 1 = 120)) ∧
       (Instr.fallbackPhaseChange z ∈ t.pending ↔ ∃ x, q.fallback = some x ∧ 10 ≤ x.minutes) ∧
       (Instr.freezeTimerMinute z ∈ t.pending ↔ 60 ≤ q.freezeSecs))) ∧
    (let o := s.plant.frost
     let k := o.circ
     let tm := s.plant.telem
     let x := t.plant.telem
     t.plant.frost = { o with zones := t.plant.frost.zones, circ := match k.state with
       | .quiet => k | .demanded => { k with wait := k.wait + 1 } | .run => { k with run := k.run + 1 }
       | .refused => { k with retry := k.retry + 1 } } ∧
     x = { tm with interval := tm.interval + 1, report := if tm.batch = [] then tm.report else tm.report + 1
                   clearSecs := if tm.clear = none then tm.clearSecs else tm.clearSecs + 1 } ∧
     (Instr.circWaitTimerExpiry ∈ t.pending ↔ k.state = .demanded ∧ 600 ≤ k.wait + 1) ∧
     (Instr.circRunCompletion ∈ t.pending ↔ k.state = .run ∧ s.env.cfg.set.circRunTime * 60 ≤ k.run + 1) ∧
     (Instr.circRetryTimerExpiry ∈ t.pending ↔ k.state = .refused ∧ 600 ≤ k.retry + 1) ∧
     (Instr.clearTrendDone ∈ t.pending ↔ tm.clear ≠ none ∧ 2 ≤ x.clearSecs) ∧
     (Instr.trendIntervalTimer ∈ t.pending ↔ s.env.cfg.set.trendInterval ≤ x.interval) ∧
     (Instr.reportTimerExpiry ∈ t.pending ↔ tm.batch ≠ [] ∧ s.env.cfg.set.reportPeriod ≤ x.report) ∧
     (Instr.silenceStart ∈ t.pending ↔ s.link.silence = false ∧ s.env.cfg.set.supervision ≠ 0 ∧
       s.env.cfg.set.supervision ≤ t.link.supervision)) ∧
    (let v := t.env.level
     let k := t.env.clock
     let y := t.env.sys
     (Instr.levelMinuteTimer ∈ t.pending ↔ 60 ≤ v.minuteSecs) ∧
     (∀ f, Instr.floatDebounceExpiry f ∈ t.pending ↔ ∃ n, (v.float f).debounce = some n ∧ 2 ≤ n) ∧
     (Instr.clockMinute ∈ t.pending ↔ k.isSet = true ∧ 59 ≤ s.env.clock.second) ∧
     (Instr.lineMinuteTick ∈ t.pending ↔ 60 ≤ k.lineSecs) ∧
     (Instr.tariffDebounceExpiry ∈ t.pending ↔ ∃ n, k.lineDebounce = some n ∧ 5 ≤ n) ∧
     t.pending.count .simulatedInflowPulse =
       (if y.mode = .commission ∧ y.sim.inflowRate ≠ 0 then y.sim.total60 / (60 * s.env.cfg.set.litresPerPulse) else 0)) ∧
    ∀ i ∈ t.pending, match i with
      | .levelMinuteTimer | .floatDebounceExpiry _ | .clockMinute | .lineMinuteTick | .tariffDebounceExpiry | .restEnd _
      | .feedbackTimeExpiry _ | .feedbackWithoutCommand _ | .simulatedFeedbackChange _ | .spacingTimerElapsed | .stagnationMinute
      | .fillMinuteTimer | .lowWetTimerExpiry | .simulatedInflowPulse | .releaseTimerExpiry | .runOnTimerExpiry
      | .autoClearTimerExpiry | .heaterTimerExpiry _ | .fallbackPhaseChange _ | .freezeTimerMinute _ | .circWaitTimerExpiry
      | .circRunCompletion | .circRetryTimerExpiry | .clearTrendDone | .trendIntervalTimer | .reportTimerExpiry
      | .silenceStart => True
      | _ => False

/-! ### The message link (Part 11) -/

/-- R175, R176: a frame formed for any kind, tag and body of up to 246 bytes is taken by a receiver that is HUNTING as exactly
that request. Supervision restarts; with a reply standing the request joins the tail of the queue, or is dropped with OVERRUN and
LINK_FAULTS where 4 wait; with nothing before it, it is carried out. A silence ends. -/
def Obligations.FormedFrameIsTaken : Prop :=
  ∀ (kind tag : Byte) (body : List Byte) (s : State), body.length ≤ 246 → s.link.rx = none →
    let r : Request := ⟨kind, tag, body⟩
    let heard : State := { s with link := { s.link with supervision := 0 } }
    ∃ t, exec (.receiveFrame (frameBytes kind tag body)) s = .next t ∧
      (s.link.silence = false → s.link.slot.isSome = true → s.link.queue.length < 4 →
        t = { heard with link := { heard.link with queue := s.link.queue ++ [r] } }) ∧
      (s.link.silence = false → s.link.slot.isSome = true → 4 ≤ s.link.queue.length →
        t = { heard with link := { heard.link with flags := { s.link.flags with overrun := true } }
                         plant := s.plant.event s.env .linkFaults 1 }) ∧
      (s.link.silence = false → s.clearToAnswer = true → t = carryOutRequest r heard) ∧
      (s.link.silence = true → t.link.silence = false)

/-- R176: bytes other than the lead byte are discarded while HUNTING; a length byte outside 2..248 and a wrong check drop the
frame with CHECK; a gap drops a partial frame with GAP. Each drop hands LINK_FAULTS and leaves the request queue as it was. -/
def Obligations.BadFramesDropped : Prop :=
  (∀ (bytes : List Byte) (s : State), s.link.rx = none → (0xA5 : Byte) ∉ bytes → exec (.receiveFrame bytes) s = .next s) ∧
  (∀ (b : Byte) (s : State), s.link.rx = none → b.toNat < 2 ∨ 248 < b.toNat →
    exec (.receiveFrame [0xA5, b]) s =
      .next { s with link := { s.link with flags := { s.link.flags with check := true } }
                     plant := s.plant.event s.env .linkFaults 1 }) ∧
  (∀ (kind tag hi lo : Byte) (body : List Byte) (s : State), s.link.rx = none → body.length ≤ 246 →
    [hi, lo] ≠ u16 (crc (BitVec.ofNat 8 (body.length + 2) :: kind :: tag :: body)).toNat →
    exec (.receiveFrame (0xA5 :: BitVec.ofNat 8 (body.length + 2) :: kind :: tag :: (body ++ [hi, lo]))) s =
      .next { s with link := { s.link with flags := { s.link.flags with check := true } }
                     plant := s.plant.event s.env .linkFaults 1 }) ∧
  (∀ s : State, s.link.rx.isSome = true →
    exec .receiveGapTimeout s =
      .next { s with link := { s.link with rx := none, flags := { s.link.flags with gap := true } }
                     plant := s.plant.event s.env .linkFaults 1 }) ∧
  ∀ s : State, s.link.rx = none → exec .receiveGapTimeout s = .next s

/-- R176, R177: a request that finds the reply slot or the request queue occupied joins the tail of the queue; with 4 requests
waiting it is dropped with OVERRUN and LINK_FAULTS. Nothing else changes. -/
def Obligations.RequestWaitsItsTurn : Prop :=
  ∀ (c : Instr) (r : Request) (s : State), requestOf c = some r → s.clearToAnswer = false →
    (s.link.queue.length < 4 → exec c s = .next { s with link := { s.link with queue := s.link.queue ++ [r] } }) ∧
    (4 ≤ s.link.queue.length →
      exec c s = .next { s with link := { s.link with flags := { s.link.flags with overrun := true } }
                                plant := s.plant.event s.env .linkFaults 1 })

/-- R177 a to c: an unlisted kind is answered UNKNOWN, tag 0 FORM, a long operation BUSY while the DONE load stands at 4, each
with no content and no other change; the link flags are reported and cleared. -/
def Obligations.RequestRefusedFirst : Prop :=
  (∀ (kind tag : Byte) (body : List Byte) (s : State), kind ∉ knownKinds → s.clearToAnswer = true →
    exec (.unknownKind kind tag body) s =
      .next { s with link := repliedLink s (replyTo s kind tag .unknown [] .nothing) }) ∧
  (∀ (c : Instr) (r : Request) (s : State), requestOf c = some r → s.clearToAnswer = true → r.tag = 0 →
    exec c s = .next { s with link := repliedLink s (replyTo s r.kind r.tag .form [] .nothing) }) ∧
  ∀ (c : Instr) (r : Request) (s : State), requestOf c = some r → s.clearToAnswer = true → r.tag ≠ 0 →
    r.kind ∈ [(0x16 : Byte), 0x28, 0x29, 0x34] → 4 ≤ doneLoad s.env.sys s.plant →
    exec c s = .next { s with link := repliedLink s (replyTo s r.kind r.tag .busy [] .nothing) }

/-- R177 d and the READ requests of every Part (`readContentOf`): each with an empty body is answered OK with its block's content, in
every mode and also during a commit, and changes nothing else. The contents of READ STATUS, READ CLOCK (with T_rem of R29), READ
LOADS, READ PUMPS, READ VALVES, READ GUARD, READ PLAN, READ ZONES, QUERY ALARM and READ COUNTERS are written out, byte by byte.
(The widths and codes that no layout gives are the model's choice, log 12; so are the fields sent as absent where their condition does
not hold, log 80, and what the holds of READ GUARD read, log 82.) -/
def Obligations.ReadRequestsAnswerOk : Prop :=
  (∀ (c : Instr) (r : Request) (content : State → List Byte) (s : State), requestOf c = some r →
    readContentOf c = some content → s.clearToAnswer = true → r.tag ≠ 0 →
    exec c s = .next { s with link := repliedLink s (replyTo s r.kind r.tag .ok (content s) .nothing) }) ∧
  ∀ s : State,
    let c := s.env.cfg.set
    let k := s.env.clock
    let tb := s.plant.load
    let u := s.plant.pumps
    let bit := fun x : Bool => (if x then 1 else 0 : Byte)
    let maybe8 := fun o : Option Nat => (match o with | some n => u8 n | none => [0xFF] : List Byte)
    let maybe16 := fun o : Option Nat => (match o with | some n => u16 n | none => [0xFF, 0xFF] : List Byte)
    let maybe32 := fun o : Option Nat => (match o with | some n => u32 n | none => [0xFF, 0xFF, 0xFF, 0xFF] : List Byte)
    let maybe16s := fun o : Option Int => (match o with | some n => u16 (n % 65536).toNat | none => [0x80, 0x00] : List Byte)
    let stamp := fun o : Option Stamp => (match o with
      | some t => u16 t.minute ++ u8 t.second | none => [0xFF, 0xFF, 0xFF] : List Byte)
    let present := fun (o : Option Nat) => (match o with | some n => 1 :: u32 n | none => [0, 0xFF, 0xFF, 0xFF, 0xFF] : List Byte)
    let cls := fun x : LoadClass => (match x with | .freeze => 1 | .secure => 2 | .fill => 3 | .warm => 4 : Byte)
    let claimed := fun x : Claim => (match x with
      | .idle => [0, 0xFF] | .waiting q _ => [1, cls q] | .granted q _ _ => [2, cls q] : List Byte)
    let cheapMinutes := match k.lineCheap with | some l => l.minutes | none => 0
    let stale := 1800 ≤ k.stale
    let onLine := c.source = .line ∨ (c.source = .lineElseCalendar ∧ ¬ stale)
    let remaining := if k.tariff ≠ .cheap then 0 else if onLine then k.learned - cheapMinutes else if k.isSet then
        (match s.env.cfg.windows.find? fun w => w.covers k.minute with
         | some w => if k.minute < w.stop then w.stop - k.minute else w.stop + 10080 - k.minute | none => 0) else 0
    statusContent s =
      [match s.env.sys.cause with | .cold => (0 : Byte) | .dip => 1 | .pin => 2 | .request => 3,
       match s.env.sys.mode with | .setup => (0 : Byte) | .run => 1 | .commission => 2,
       match s.env.sys.storeState with | .loaded => (0 : Byte) | .defaults => 1 | .commitFailed => 2,
       if s.env.sys.commit = none then 0 else 1, if tb.zones = ⟨.idle, .idle, .idle, .idle⟩ then 0 else 1, 0,
       match s.env.cfg.geometry with | none => (100 : Byte) | some bs => if c.lOver ≤ lastLevel bs then 0 else 100] ∧
    clockContent s =
      [bit k.isSet] ++ u16 k.minute ++ u8 k.second ++
        [match k.tariff with | .cheap => (0 : Byte) | .dear => 1 | .unknown => 2, if onLine then 1 else 0,
         match c.source with | .calendar => (0 : Byte) | .line => 1 | .lineElseCalendar => 2,
         match k.line with | .closed => (0 : Byte) | .opened => 1, if stale then 1 else 0] ++ u16 k.stale ++
        (match k.lineCheap with | some l => (1 : Byte) :: u16 l.minutes | none => [0, 0xFF, 0xFF]) ++ u16 remaining ++ u16 k.learned ∧
    loadsContent s =
      u16 tb.cap ++ [if tb.capCheap then (0 : Byte) else 1] ++ u16 c.capCheap ++ u16 c.capDear ++ u32 (grantedSum c tb) ++
        u16 (freezeSum c tb) ++
        allLoads.flatMap (fun l => u16 (rating c l) ++ claimed (tb.claim l) ++ present (tb.claim l).seq? ++
          present (tb.claim l).grant?) ++
        u8 (waitingList tb).length ++ (waitingList tb).flatMap (fun l => [match l with
          | .pump .p1 => (0 : Byte) | .pump .p2 => 1 | .pump .p3 => 2 | .zone .z1 => 3 | .zone .z2 => 4 | .zone .z3 => 5 | .zone .z4 => 6]) ∧
    pumpsContent s =
      u8 c.pumpsFitted ++ allPumps.flatMap (fun p =>
        let r := u.recs.get p
        let served := (if r.served.fill then [(0 : Byte)] else []) ++ (if r.served.boost then [1] else []) ++
          (if r.served.reserve then [2] else []) ++ (if r.served.circ then [3] else [])
        [match r.state with
          | .off => (0 : Byte) | .called => 1 | .starting => 2 | .running => 3 | .resting => 4 | .lockout => 5 | .out => 6] ++
          u16 (c.delivery.get p) ++ u8 served.length ++ served ++
          [if r.served.reserve || r.served.circ then (2 : Byte) else if r.served.fill || r.served.boost then 3 else 0xFF] ++
          claimed (tb.pumps.get p) ++ u32 r.timer ++ stamp (match r.run with | some x => x.start | none => none) ++
          [bit r.windowMark, if r.state = .starting ∨ r.state = .running then 1 else 0,
           match (if s.env.sys.mode = .commission then r.simFeedback else s.env.pins.feedback.get p) with
            | .present => (0 : Byte) | .absent => 1]) ++
        u8 u.duty.length ++ u.duty.map (fun p => (match p with | .p1 => (1 : Byte) | .p2 => 2 | .p3 => 3)) ++ u8 u.fillK ++ u8 u.boostK ++
        [bit u.reserve, bit u.circ, match u.limit with | .none => (0 : Byte) | .one => 1 | .zero => 2] ++ u8 (numberCalled s.env u) ++
        u32 u.spacing ++ [bit u.rotationPending, bit u.windowOpen] ++ u16 u.stagnation ++ [bit u.inletRequest] ∧
    valvesContent s =
      [ValveId.inlet, .dump].flatMap (fun v =>
        let r := s.plant.valves.get v
        [match r.state with | .unhomed => (0 : Byte) | .idle => 1 | .moving => 2 | .homing => 3 | .fault => 4] ++ maybe16 r.position ++
          maybe16 r.target ++
          [match r.owner with | .none => (0 : Byte) | .host => 1 | .pumps => 2 | .guard => 3,
           if r.state = .moving ∨ r.state = .homing ∨ r.owner = .pumps ∨ r.owner = .guard then 1 else 0] ++
          (match r.op with | some op => [1, op.tag] | none => [0, 0xFF]) ++
          (if v = .inlet then [match r.waiting with | none => (0 : Byte) | some .homing => 1 | some .pFill => 2] else []) ++
          [match (if s.env.sys.mode = .commission then (if r.stem ≤ 0 then Contact.closed else .opened) else r.endStop) with
            | .closed => (0 : Byte) | .opened => 1] ++
          (match r.phase with | some (.backOff n) => 0 :: u16 n | some (.seek n) => 1 :: u16 n | none => [0xFF, 0xFF, 0xFF]) ++
          maybe8 r.seat) ∧
    (let g := s.plant.guard.core
     let held := fun (h : Option Nat) (r : Valve) => bit h.isSome :: maybe16 h ++
       [if h.isSome ∧ r.state = .idle ∧ r.position = h then (1 : Byte) else 0,
        if r.state = .fault ∨ r.fromFault then 1 else 0]
     guardContent s =
      [match g.state with | .normal => (0 : Byte) | .watch => 1 | .shut => 2 | .trip => 3 | .blind => 4,
       match g.reason with
        | .none => (0 : Byte) | .restart => 1 | .highHigh => 2 | .overFloat => 3 | .invalid => 4 | .high => 5 | .fast => 6,
       match u.limit with | .none => (0 : Byte) | .one => 1 | .zero => 2, bit g.high, bit g.highHigh, bit g.fast, bit g.latch] ++
        u32 g.release.value ++ [bit g.release.running] ++ u32 g.runOn.value ++ [bit g.runOn.running] ++
        u16 g.autoClear.value ++ [bit g.autoClear.running, bit s.plant.guard.silence] ++
        held g.inletHold s.plant.valves.inlet ++ held g.dumpHold s.plant.valves.dump ++ u16 s.plant.guard.age ++
        [match s.env.level.overFloat.reported with | .wet => (0 : Byte) | .dry => 1] ++ u16 c.lHigh ++ u16 c.lHh ++ u16 c.lOver ++
        u16 c.hysteresis ++ u16 c.tWarn) ∧
    (let f := s.plant.fill
     let p := f.plan
     planContent s =
      [match p.state with | .idle => (0 : Byte) | .filling => 1 | .topped => 2 | .suspended => 3 | .blindFill => 4,
       match p.reason with
        | some .mode => (0 : Byte) | some .guard => 1 | some .tariff => 2 | some .noPump => 3 | some .valve => 4 | none => 0xFF] ++
        u16 p.levelUsed ++ u32 p.need ++ u16 p.available ++ u8 p.kNeed ++ u8 p.kMax ++ u8 u.fillK ++ [bit p.shortfall] ++
        (match p.finish with | some x => u32 x.minutes ++ maybe16 x.minuteOfWeek | none => [0xFF, 0xFF, 0xFF, 0xFF, 0xFF, 0xFF]) ++
        [bit p.topped] ++ u16 f.draw ++ [if u.reserve then (0 : Byte) else 1] ++ u16 f.lowWet ++
        (match f.boost with | some b => (1 : Byte) :: u16 b.level ++ u8 b.k | none => [0, 0xFF, 0xFF, 0xFF]) ++
        [match f.boostEnd with
          | some .reached => (0 : Byte) | some .invalid => 1 | some .guard => 2 | some .mode => 3 | some .silent => 4
          | some .cancelled => 5 | none => 0xFF, bit f.windowOpen] ++
        u16 f.window.minutes ++ u32 f.window.inflow ++ maybe32 f.window.startVolume ++ [bit f.window.usable] ++ u16 f.blind ++
        u8 u.fillK ++ u8 u.boostK ++ [bit u.reserve]) ∧
    (let q := s.plant.frost.circ
     let sensor := fun x : Sensor => maybe16s x.reading ++ [bit x.faulted] ++ u8 x.badRun ++ u8 x.goodRun
     zonesContent s =
      allZones.flatMap (fun z =>
        let r := s.plant.frost.zones.get z
        let w := c.zone.get z
        let on := (tb.zones.get z).isGranted = true
        [bit w.enabled, match r.state with | .off => (0 : Byte) | .want => 1 | .heat => 2 | .fallback => 3 | .disabled => 4] ++
          sensor (s.plant.frost.sensors.get z) ++ maybe16s (some w.onBelow) ++ maybe16s (some w.offAbove) ++
          maybe16s (some w.critical) ++ claimed (tb.zones.get z) ++
          [if on then (0 : Byte) else 1, if on ∧ s.env.sys.mode ≠ .commission then 1 else 0] ++ u32 r.timer ++ [bit r.boost] ++
          u16 r.freeze ++
          (match r.fallback with | some f => (if f.on then 0 else 1) :: u16 f.minutes | none => [0xFF, 0xFF, 0xFF])) ++
        sensor s.plant.frost.air ++
        [match q.state with | .quiet => (0 : Byte) | .demanded => 1 | .run => 2 | .refused => 3, bit u.circ] ++
        u32 q.wait ++ u32 q.run ++ u32 q.retry ++
        [match q.refusal with
          | some .level => (0 : Byte) | some .headroom => 1 | some .guard => 2 | some .noPump => 3 | some .mode => 4 | some .wait => 5
          | some .guardEnd => 6 | none => 0xFF] ++
        maybe16s (some c.circBelow) ++ u16 c.stagnationLimit ++ u16 c.circHeadroom ++ u16 c.circRunTime ++ u16 u.stagnation ++
        [if allZones.any fun z => (s.plant.frost.zones.get z).freeze = 10 then (0 : Byte) else 1]) ∧
    (let a := s.plant.alarms
     let number := fun st : AlarmState => (allAlarms.filter fun j => (a.get j).state = st).length
     let counted := u8 (number .active + number .latched) ++ u8 (number .acked)
     let stands := fun j => (a.get j).state = .active ∨ (a.get j).state = .latched
     let rank := fun j => ((a.get j).raiseSeq).getD 0
     ((∀ j, ¬ stands j) → queryContent s =
        [0, 0xFF, 0xFF, 0xFF, 0xFF, 0, 0xFF, 0xFF, 0xFF, 0xFF, 0xFF, 0xFF, 0xFF, 0xFF, 0xFF, 0xFF, 0xFF] ++ counted) ∧
     ((∀ j, rank j < 4294967296) → ∀ j, stands j →
        (∀ i, i ≠ j → stands i → j.priority < i.priority ∨ (j.priority = i.priority ∧ rank j < rank i)) → queryContent s =
        (1 : Byte) :: u8 (j.place + 1) ++ u8 j.place ++ [if (a.get j).state = .active then (1 : Byte) else 3] ++ u8 j.priority ++
          present (a.get j).raiseSeq ++ stamp (match (a.get j).stamp with | some x => x | none => none) ++
          u32 (a.get j).raises ++ counted)) ∧
    countersContent s =
      [CounterId.c1, .c2, .c3, .c4].flatMap (fun i =>
        let p := s.env.cfg.programs.get i
        let n := s.plant.telem.counters.get i
        [match p.event with
          | .pumpStarts => (0 : Byte) | .pumpRunSeconds => 1 | .inflowLitres => 2 | .heatEnergy => 3 | .guardShuts => 4
          | .dumpOpens => 5 | .linkFaults => 6 | .circRuns => 7 | .alarmRaises => 8,
         match p.qualifier with | .any => (0 : Byte) | .cheap => 1 | .dear => 2] ++ u32 p.threshold ++
          [bit p.freeze, match p.startAfter with | none => (0 : Byte) | some .c1 => 1 | some .c2 => 2 | some .c3 => 3 | some .c4 => 4] ++
          u32 n.count ++ [bit n.crossed, bit n.started, bit n.frozen])

/-- R17, R25: READ GEOMETRY returns the count and the breakpoints in order, or a count of 0; READ TARIFF WINDOWS the count and
the windows in the order written; each OK in every mode, changing nothing; a body that is not empty is refused with FORM. -/
def Obligations.ReadListsReply : Prop :=
  ∀ (tag : Byte) (s : State), tag ≠ 0 → s.clearToAnswer = true →
    exec (.readGeometry tag []) s = .next { s with link := repliedLink s (replyTo s 0x13 tag .ok
      (match s.env.cfg.geometry with
       | none => [0]
       | some bs => BitVec.ofNat 8 bs.length ::
           bs.flatMap fun b => u16 b.level ++ (u16 (b.volume / 65536) ++ u16 (b.volume % 65536))) .nothing) } ∧
    exec (.readTariffWindows tag []) s = .next { s with link := repliedLink s (replyTo s 0x15 tag .ok
      (BitVec.ofNat 8 s.env.cfg.windows.length :: s.env.cfg.windows.flatMap fun w => u16 w.start ++ u16 w.stop)
      .nothing) } ∧
    ∀ body, body ≠ [] →
      exec (.readGeometry tag body) s = .next { s with link := repliedLink s (replyTo s 0x13 tag .form [] .nothing) } ∧
      exec (.readTariffWindows tag body) s =
        .next { s with link := repliedLink s (replyTo s 0x15 tag .form [] .nothing) }

/-- R18: READ LEVEL gives the published level (before the first publication the held level), the quality, the rate or its mark, the
time to overflow, the volume or its mark, the floats and the last raw code; OK in every mode, changing nothing; a body that is
not empty is refused with FORM. -/
def Obligations.ReadLevelReply : Prop :=
  ∀ (tag : Byte) (s : State), tag ≠ 0 → s.clearToAnswer = true →
    (let lv := s.env.level
     let shown := if lv.quality = .good then lv.filtered else lv.held
     exec (.readLevel tag []) s = .next { s with link := repliedLink s (replyTo s 0x20 tag .ok
      (u16 shown ++
       [match lv.quality with | .good => 0 | .held => 1 | .invalid => 2] ++
       (match lv.rate with | some r => u16 (r % 65536).toNat | none => [0x80, 0x00]) ++
       u16 lv.tOvf ++
       (match s.env.cfg.geometry with
        | some bs => u16 (volumeOf bs shown / 65536) ++ u16 (volumeOf bs shown % 65536)
        | none => [0xFF, 0xFF, 0xFF, 0xFF]) ++
       [match lv.low.reported with | .wet => 0 | .dry => 1] ++
       [match lv.overFloat.reported with | .wet => 0 | .dry => 1] ++
       u16 lv.lastRaw) .nothing) }) ∧
    ∀ body, body ≠ [] →
      exec (.readLevel tag body) s = .next { s with link := repliedLink s (replyTo s 0x20 tag .form [] .nothing) }

/-- R185: READ SETTING is answered OK in every mode, also during a commit, with the id, the working value, the class and the
range in force, and changes nothing; an id that names no setting is refused with FORM. (The lower end 0 of the range reported for the
supervision period, whose range 0, 10..3600 has a gap, is the model's inference, log 31.) -/
def Obligations.ReadSettingReply : Prop :=
  ∀ (tag : Byte) (n : Nat) (s : State), tag ≠ 0 → n < 65536 → s.clearToAnswer = true →
    (∀ i : SettingId, i.number = n →
      exec (.readSetting tag (u16 n ++ [0])) s = .next { s with link := repliedLink s (replyTo s 0x11 tag .ok
        (u16 n ++ s32 (getSetting s.env.cfg.set i) ++ [if i.structural then 0 else 1] ++
          s32 (rangeOf s.env.cfg.set i).1 ++ s32 (rangeOf s.env.cfg.set i).2) .nothing) }) ∧
    ((∀ i : SettingId, i.number ≠ n) →
      exec (.readSetting tag (u16 n ++ [0])) s =
        .next { s with link := repliedLink s (replyTo s 0x11 tag .form [] .nothing) })

/-- R155, R162: READ ALARMS gives the records from id f onward, at most n; READ TREND gives the points that its starting sequence
names (a to d), at most n, with the oldest sequence in the log and the flags SKIPPED, CLEARING and log empty; n is clamped to 1..12
with CLAMPED and the value taken (its place at the content's end is the model's choice, log 13; so is the log as it stands during a
clear, log 26); nothing else changes. -/
def Obligations.ReadSomeRecords : Prop :=
  ∀ (tag : Byte) (n : Nat) (s : State), tag ≠ 0 → n < 256 → s.clearToAnswer = true →
    (∀ f : Nat, 1 ≤ f → f ≤ 24 →
      exec (.readAlarms tag (u8 f ++ u8 n ++ [0])) s = .next { s with link := (repliedLink s
        (replyTo s 0x32 tag (if 1 ≤ n ∧ n ≤ 12 then .ok else .clamped)
          (mark (relayOn s.env.cfg.set s.plant.alarms) ++ u8 s.env.cfg.set.relayThreshold ++ u32 s.plant.alarms.changes ++
            u32 s.plant.alarms.raiseCounter ++
            listBytes (alarmBytes s.plant.alarms) ((allAlarms.drop (f - 1)).take (clampNat 1 12 n)) ++
            (if 1 ≤ n ∧ n ≤ 12 then [] else u8 (clampNat 1 12 n))) .nothing)) }) ∧
    (∀ f : Nat, f < 256 → f = 0 ∨ 24 < f →
      exec (.readAlarms tag (u8 f ++ u8 n ++ [0])) s =
        .next { s with link := repliedLink s (replyTo s 0x32 tag .form [] .nothing) }) ∧
    ∀ q : Nat, q < 4294967296 →
      (let tm := s.plant.telem
       let pts :=
         if tm.clear.isSome then []
         else if ∃ p ∈ tm.log, p.seq = q then (tm.log.dropWhile fun p => p.seq != q).take (clampNat 1 12 n)
         else if q = tm.pointCounter then []
         else tm.log.take (clampNat 1 12 n)
       let skipped := tm.clear = none ∧ (∀ p ∈ tm.log, p.seq ≠ q) ∧ q ≠ tm.pointCounter
       ∃ flags oldest, exec (.readTrend tag (u32 q ++ u8 n ++ [0])) s = .next { s with link := (repliedLink s
          (replyTo s 0x33 tag (if 1 ≤ n ∧ n ≤ 12 then .ok else .clamped)
            (BitVec.ofNat 8 flags :: BitVec.ofNat 8 pts.length :: oldest ++ u32 tm.pointCounter ++
              pts.flatMap TrendPoint.bytes ++ (if 1 ≤ n ∧ n ≤ 12 then [] else u8 (clampNat 1 12 n))) .nothing)) } ∧
          flags < 8 ∧ (4 ≤ flags ↔ tm.log = []) ∧ (flags % 2 = 1 ↔ skipped) ∧ (flags / 2 % 2 = 1 ↔ tm.clear.isSome = true) ∧
          (∀ p ps, tm.log = p :: ps → oldest = u32 p.seq) ∧ (tm.log = [] → oldest = [0xFF, 0xFF, 0xFF, 0xFF]))

/-- R178: PING changes nothing and its reply has no content; PAUSE NOTICES sets the paused mark and RESUME NOTICES clears it;
each is answered OK in every mode, and a body that is not empty is refused with FORM. -/
def Obligations.LinkRequests : Prop :=
  ∀ (tag : Byte) (s : State), tag ≠ 0 → s.clearToAnswer = true →
    exec (.ping tag []) s = .next { s with link := repliedLink s (replyTo s 0x01 tag .ok [] .nothing) } ∧
    exec (.pauseNotices tag []) s =
      .next { s with link := { repliedLink s (replyTo s 0x05 tag .ok [] .nothing) with paused := true } } ∧
    exec (.resumeNotices tag []) s =
      .next { s with link := { repliedLink s (replyTo s 0x06 tag .ok [] .nothing) with paused := false } } ∧
    ∀ body, body ≠ [] →
      exec (.ping tag body) s = .next { s with link := repliedLink s (replyTo s 0x01 tag .form [] .nothing) } ∧
      exec (.pauseNotices tag body) s = .next { s with link := repliedLink s (replyTo s 0x05 tag .form [] .nothing) } ∧
      exec (.resumeNotices tag body) s = .next { s with link := repliedLink s (replyTo s 0x06 tag .form [] .nothing) }

/-- R178: with the line free, a reply in the slot is sent first and the next request leaves the queue; with the slot empty and
notices not paused, the notice at the head is taken and sent; otherwise the line stays idle. A frame being sent is not
disturbed. -/
def Obligations.TransmitterChooses : Prop :=
  ∀ s : State,
    (s.link.sending.isSome = true → exec .transmitNextFrame s = .next s) ∧
    (∀ r, s.link.sending = none → s.link.slot = some r → s.link.queue = [] →
      exec .transmitNextFrame s = .next { s with link :=
        { s.link with slot := none, sending := some ⟨frameBytes r.kind r.tag r.body, r.after⟩ } }) ∧
    (∀ r q qs, s.link.sending = none → s.link.slot = some r → s.link.queue = q :: qs →
      exec .transmitNextFrame s = .next (carryOutRequest q { s with link :=
        { s.link with slot := none, queue := qs, sending := some ⟨frameBytes r.kind r.tag r.body, r.after⟩ } })) ∧
    (∀ n ns, s.link.sending = none → s.link.slot = none → s.link.paused = false → s.plant.telem.queue = n :: ns →
      exec .transmitNextFrame s = .next
        { s with link := { s.link with sending := some ⟨frameBytes n.kind.byte n.tag n.body, .nothing⟩ }
                 plant := { s.plant with telem := { s.plant.telem with queue := ns } } }) ∧
    (s.link.sending = none → s.link.slot = none → s.link.paused = true ∨ s.plant.telem.queue = [] →
      exec .transmitNextFrame s = .next s)

/-- R174, R178, R189: when the last byte of a frame has gone the line is free; after the reply to RESTART the part restarts with
the cause REQUEST, and after the reply to a write of the line rate the rate that this write took is in force and a partial frame
is dropped without a flag. -/
def Obligations.FrameSentFollowUp : Prop :=
  ∀ s : State,
    (s.link.sending = none → exec .frameSent s = .next s) ∧
    (∀ b, s.link.sending = some ⟨b, .nothing⟩ →
      exec .frameSent s = .next { s with link := { s.link with sending := none } }) ∧
    (∀ b n, s.link.sending = some ⟨b, .lineRate n⟩ →
      exec .frameSent s = .next { s with link := { s.link with sending := none, rate := n, rx := none } }) ∧
    (∀ b, s.link.sending = some ⟨b, .restart⟩ →
      ∃ t, exec .frameSent s = .next t ∧ t.env.sys.cause = .request ∧ t.env.cfg = s.env.cfg ∧ t.link.queue = [] ∧
        t.link.slot = none ∧ t.link.sending = none ∧ t.pending = s.pending) ∧
    ∀ tag : Byte, tag ≠ 0 → s.clearToAnswer = true →
      exec (.restart tag []) s = .next { s with link := repliedLink s (replyTo s 0x04 tag .ok [] .restart) }

/-- R179: when the supervision timer reaches its period, silence begins: the mark is set, notices are no longer paused,
HOST_SILENT appears, an active boost ends and the guard learns of it. With supervision off, or in silence already, nothing
changes. (The command stands for the timer's reaching its period, so it sets the timer there: the model's choice, log 2.) -/
def Obligations.SilenceBegins : Prop :=
  ∀ s : State,
    (s.env.cfg.set.supervision ≠ 0 → s.link.silence = false → s.plant.alarms.table.length = 24 →
      ∃ t, exec .silenceStart s = .next t ∧ t.env = s.env ∧ t.pending = s.pending ∧
        t.link = { s.link with silence := true, paused := false, supervision := s.env.cfg.set.supervision } ∧
        t.plant.guard.silence = true ∧ t.plant.fill.boost = none ∧
        (t.plant.alarms.get .hostSilent).state.present = true) ∧
    (s.env.cfg.set.supervision = 0 ∨ s.link.silence = true → exec .silenceStart s = .next s)

/-! ### Level unit (Part 1) -/

/-- R1, R6, R19: a code below 655 or above 4055 is a faulted sample; in COMMISSION the code is the simulated one. It enters nothing,
sets the good run to 0 and acts on the quality it finds: GOOD becomes HELD with fault run 1 and the rate unknown; HELD counts to 240
and then becomes INVALID; INVALID stays. R9, R11: a sample after the first publication publishes, and so does one that brings
INVALID; the time to overflow is then reckoned again. R8, R14: LEVEL_SENSOR appears at the sample that brings INVALID, and no
such sample ends it; LEVEL_DISAGREE goes at a publication, the level not being GOOD, and stays as it was at a sample without one. -/
def Obligations.FaultedSample : Prop :=
  ∀ (raw : BitVec 12) (s : State),
    let code := if s.env.sys.mode = .commission then s.env.sys.sim.raw else raw.toNat
    code < 655 ∨ 4055 < code →
    ∃ t, exec (.transducerSample raw) s = .next t ∧ t.link = s.link ∧ t.pending = s.pending ∧
      t.env = { s.env with level := t.env.level } ∧
      (let u := s.env.level
       let v := t.env.level
       let shown := if v.quality = .good then v.filtered else v.held
       let publishes := u.published = true ∨ (v.quality = .invalid ∧ u.quality ≠ .invalid)
       v.lastRaw = code ∧ v.transducer = (if s.env.sys.mode = .commission then u.transducer else raw.toNat) ∧
       v.window = u.window ∧ v.filtered = u.filtered ∧ v.held = u.held ∧ v.goodRun = 0 ∧
       v.snapshot = u.snapshot ∧ v.low = u.low ∧ v.overFloat = u.overFloat ∧ (v.published = true ↔ publishes) ∧
       (¬ publishes → v.tOvf = u.tOvf) ∧
       (publishes → ∀ r : Int, v.rate = some r → 0 < r → v.tOvf =
         if shown < s.env.cfg.set.lOver then min 999 ((s.env.cfg.set.lOver - shown) / r.toNat) else 0) ∧
       (publishes → v.rate = none ∨ (∃ r : Int, v.rate = some r ∧ r ≤ 0) → v.tOvf = 999) ∧
       (u.quality = .good → v.quality = .held ∧ v.faultRun = 1 ∧ v.rate = none) ∧
       (u.quality = .held → v.faultRun = min 240 (u.faultRun + 1) ∧ v.rate = u.rate ∧
         (v.quality = if v.faultRun = 240 then .invalid else .held)) ∧
       (u.quality = .invalid → v.faultRun = min 240 (u.faultRun + 1) ∧ v.quality = .invalid ∧ v.rate = u.rate) ∧
       (v.quality = .invalid → u.quality ≠ .invalid → v.published = true) ∧
       (s.plant.alarms.table.length = 24 →
         let present := fun (x : State) (k : AlarmKind) => (x.plant.alarms.get k).state.present = true
         (present t .levelSensor ↔ present s .levelSensor ∨ (v.quality = .invalid ∧ u.quality ≠ .invalid)) ∧
         (publishes → ¬ present t .levelDisagree) ∧ (¬ publishes → (present t .levelDisagree ↔ present s .levelDisagree))))

/-- R2, R4, R5, R7, R19: a code from 655 to 4055 (in COMMISSION the simulated code) is a good sample. It is converted with every
division truncated toward zero, joins the window of five, ends the fault run and raises the good run; the filter is averaged at GOOD
and seeded at the start after a restart and at the end of a recovery of ten. R9, R11: a sample after the first publication publishes,
and so does one that brings GOOD; the time to overflow is then reckoned again. R8, R14: LEVEL_SENSOR goes at the sample that ends
INVALID and is else as it was; LEVEL_DISAGREE is present after a publication exactly where the level is GOOD and a float disagrees with
it by more than the tolerance, and stays as it was at a sample without one. -/
def Obligations.GoodSample : Prop :=
  ∀ (raw : BitVec 12) (s : State),
    let code := if s.env.sys.mode = .commission then s.env.sys.sim.raw else raw.toNat
    655 ≤ code → code ≤ 4055 →
    ∃ t, exec (.transducerSample raw) s = .next t ∧ t.link = s.link ∧ t.pending = s.pending ∧
      t.env = { s.env with level := t.env.level } ∧
      (let c := s.env.cfg.set
       let u := s.env.level
       let v := t.env.level
       let h := Int.tdiv (((code : Int) + c.offsetTrim - 819) * c.span) 3276
       let l := (clampInt 0 c.lTop (Int.tdiv (h * (10000 + c.gainTrim)) 10000 + c.datum)).toNat
       let shown := if v.quality = .good then v.filtered else v.held
       let publishes := u.published = true ∨ (v.quality = .good ∧ u.quality ≠ .good)
       (v.published = true ↔ publishes) ∧ (¬ publishes → v.tOvf = u.tOvf) ∧
       (publishes → ∀ r : Int, v.rate = some r → 0 < r → v.tOvf =
         if shown < c.lOver then min 999 ((c.lOver - shown) / r.toNat) else 0) ∧
       (publishes → v.rate = none ∨ (∃ r : Int, v.rate = some r ∧ r ≤ 0) → v.tOvf = 999) ∧
       v.transducer = (if s.env.sys.mode = .commission then u.transducer else raw.toNat) ∧
       v.lastRaw = code ∧ v.faultRun = 0 ∧ v.goodRun = min 10 (u.goodRun + 1) ∧ v.rate = u.rate ∧
       (u.window.length < 5 → v.window = u.window ++ [l]) ∧
       (u.window.length = 5 → v.window = u.window.tail ++ [l]) ∧
       (∀ m, median v.window = some m →
         (u.quality = .good → v.quality = .good ∧ v.filtered = (7 * u.filtered + m + 4) / 8) ∧
         (u.quality = .held → u.published = false → v.quality = .good ∧ v.filtered = m) ∧
         (u.quality = .held → u.published = true → v.goodRun = 10 → v.quality = .good ∧ v.filtered = m) ∧
         (u.quality = .invalid → v.goodRun = 10 → v.quality = .good ∧ v.filtered = m)) ∧
       (u.quality = .held → u.published = false → median v.window = none →
         v.quality = .held ∧ v.filtered = u.filtered ∧ v.published = false) ∧
       (u.quality ≠ .good → (u.published = true ∨ u.quality = .invalid) → v.goodRun < 10 →
         v.quality = u.quality ∧ v.filtered = u.filtered ∧ v.held = u.held) ∧
       (v.quality = .good → u.quality ≠ .good ∨ u.published = true → v.published = true ∧ v.held = v.filtered) ∧
       (s.plant.alarms.table.length = 24 →
         let present := fun (x : State) (k : AlarmKind) => (x.plant.alarms.get k).state.present = true
         (present t .levelSensor ↔ present s .levelSensor ∧ ¬ (u.quality = .invalid ∧ v.quality ≠ .invalid)) ∧
         (publishes → (present t .levelDisagree ↔ floatsDisagree c v)) ∧
         (¬ publishes → (present t .levelDisagree ↔ present s .levelDisagree))))

/-- R10, R11: at an expiry of the minute timer the rate is known exactly when the last snapshot was GOOD and every sample since
was, then a new snapshot is taken and the time to overflow is reckoned again from L_over. -/
def Obligations.LevelMinute : Prop :=
  ∀ s : State, ∃ v, exec .levelMinuteTimer s = .next { s with env := { s.env with level := v } } ∧
    (let u := s.env.level
     let shown := if u.quality = .good then u.filtered else u.held
     v = { u with rate := v.rate, snapshot := v.snapshot, goodSince := true, minuteSecs := 0, tOvf := v.tOvf } ∧
     (∀ l, u.snapshot = some ⟨l, true⟩ → u.goodSince = true →
       v.rate = some (clampInt (-2000) 2000 ((u.filtered : Int) - l))) ∧
     (u.snapshot = none ∨ (∃ l, u.snapshot = some ⟨l, false⟩) ∨ u.goodSince = false → v.rate = none) ∧
     v.snapshot = some ⟨u.filtered, u.quality == Quality.good⟩ ∧
     (∀ r : Int, v.rate = some r → 0 < r → shown < s.env.cfg.set.lOver →
       v.tOvf = min 999 ((s.env.cfg.set.lOver - shown) / r.toNat)) ∧
     (∀ r : Int, v.rate = some r → 0 < r → s.env.cfg.set.lOver ≤ shown → v.tOvf = 0) ∧
     (∀ r : Int, v.rate = some r → r ≤ 0 → v.tOvf = 999) ∧
     (v.rate = none → v.tOvf = 999))

/-- R12, R107: outside COMMISSION a float's contact that differs from the reported state begins a wait, and one that agrees ends
it; the end of the wait turns the reported state. A LOW float that turns sets the LOW wet timer to 0, and one that turns DRY
turns the reserve ON. In COMMISSION the real contact is not read. R14: at the change of either float LEVEL_DISAGREE is present exactly
where the level is GOOD and a float disagrees with it. -/
def Obligations.FloatDebounce : Prop :=
  (∀ (w : Wet) (s : State), s.env.sys.mode ≠ .commission →
    exec (.floatContactChange .low w) s = .next { s with env := { s.env with
      pins := { s.env.pins with low := w }
      level := { s.env.level with low := ⟨s.env.level.low.reported,
        if w = s.env.level.low.reported then none else some (s.env.level.low.debounce.getD 0)⟩ } } }) ∧
  (∀ (w : Wet) (s : State), s.env.sys.mode ≠ .commission →
    exec (.floatContactChange .overFloat w) s = .next { s with env := { s.env with
      pins := { s.env.pins with overFloat := w }
      level := { s.env.level with overFloat := ⟨s.env.level.overFloat.reported,
        if w = s.env.level.overFloat.reported then none else some (s.env.level.overFloat.debounce.getD 0)⟩ } } }) ∧
  (∀ (w : Wet) (s : State), s.env.sys.mode = .commission →
    exec (.floatContactChange .low w) s = .next { s with env := { s.env with pins := { s.env.pins with low := w } } } ∧
    exec (.floatContactChange .overFloat w) s = .next { s with env := { s.env with pins := { s.env.pins with overFloat := w } } }) ∧
  (∀ (f : FloatId) (s : State), (s.env.level.float f).debounce = none → exec (.floatDebounceExpiry f) s = .next s) ∧
  (∀ s : State, s.env.level.low.debounce.isSome = true →
    ∃ t, exec (.floatDebounceExpiry .low) s = .next t ∧ t.link = s.link ∧ t.pending = s.pending ∧
      t.env = { s.env with level := { s.env.level with low := ⟨otherWet s.env.level.low.reported, none⟩ } } ∧
      t.plant.fill.lowWet = 0 ∧ (s.env.level.low.reported = .wet → t.plant.pumps.reserve = true)) ∧
  ∀ (f : FloatId) (s : State), (s.env.level.float f).debounce.isSome = true → s.plant.alarms.table.length = 24 →
    ∃ t, exec (.floatDebounceExpiry f) s = .next t ∧
      t.env.level = s.env.level.setFloat f ⟨otherWet (s.env.level.float f).reported, none⟩ ∧
      ((t.plant.alarms.get .levelDisagree).state.present = true ↔ floatsDisagree s.env.cfg.set t.env.level)

/-- R16: WRITE GEOMETRY takes a table of 2..16 breakpoints from level 0, levels and volumes rising strictly, none beyond its top,
the last level at or above L_over, and answers OK; any other table is refused with RANGE; outside SETUP the request is refused
with STATE, during a commit with BUSY. A refused request leaves the table as it was. -/
def Obligations.WriteGeometry : Prop :=
  ∀ (tag : Byte) (bs : List Breakpoint) (s : State), tag ≠ 0 → s.clearToAnswer = true → bs.length ≤ 40 →
    (∀ b ∈ bs, b.level < 65536 ∧ b.volume < 4294967296) →
    (let body := u8 bs.length ++ bs.flatMap (fun b => u16 b.level ++ u32 b.volume) ++ [0]
     let admitted := 2 ≤ bs.length ∧ bs.length ≤ 16 ∧ (∃ b, bs.head? = some b ∧ b.level = 0) ∧
       (∀ b ∈ bs, b.level ≤ 20000 ∧ b.volume ≤ 4000000) ∧
       bs.Pairwise (fun a b => a.level < b.level ∧ a.volume < b.volume) ∧
       ∃ b, bs.getLast? = some b ∧ s.env.cfg.set.lOver ≤ b.level
     (s.env.sys.mode = .setup → s.env.sys.commit = none → admitted →
       ∃ t, exec (.writeGeometry tag body) s = .next t ∧ t.env.cfg = { s.env.cfg with geometry := some bs } ∧
         t.env.clock = s.env.clock ∧ t.env.sys = s.env.sys ∧ t.env.pins = s.env.pins ∧ t.pending = s.pending ∧
         t.link = repliedLink s (replyTo s 0x12 tag .ok [] .nothing)) ∧
     (s.env.sys.mode = .setup → s.env.sys.commit = none → ¬ admitted →
       exec (.writeGeometry tag body) s =
         .next { s with link := repliedLink s (replyTo s 0x12 tag .range [] .nothing) }) ∧
     (s.env.sys.mode ≠ .setup →
       exec (.writeGeometry tag body) s =
         .next { s with link := repliedLink s (replyTo s 0x12 tag .state [] .nothing) }) ∧
     (s.env.sys.mode = .setup → s.env.sys.commit.isSome = true →
       exec (.writeGeometry tag body) s =
         .next { s with link := repliedLink s (replyTo s 0x12 tag .busy [] .nothing) }))

/-! ### Clock and tariff unit (Part 2) -/

/-- R21, R22: a clock minute returns the second to 0 and raises the minute-of-week, 10079 to 0, and an UNSET clock makes none; SET
CLOCK sets the clock in every mode, also during a commit, clamping the minute to 10079 and the second to 59, and the tariff
state follows; a wrong length or a reserved byte not zero is refused with FORM. -/
def Obligations.DayClock : Prop :=
  (∀ s : State, s.env.clock.isSet = false → exec .clockMinute s = .next s) ∧
  (∀ s : State, s.env.clock.isSet = true → ∃ t, exec .clockMinute s = .next t ∧
    t.env.clock = { s.env.clock with second := 0, tariff := t.env.clock.tariff
                                     minute := if s.env.clock.minute + 1 < 10080 then s.env.clock.minute + 1 else 0 } ∧
    t.env.clock.tariff = tariffOf t.env.cfg t.env.clock ∧
    t.env.cfg = s.env.cfg ∧ t.env.level = s.env.level ∧ t.env.sys = s.env.sys ∧ t.link = s.link ∧ t.pending = s.pending) ∧
  (∀ (tag : Byte) (m sec : Nat) (s : State), tag ≠ 0 → s.clearToAnswer = true → m < 65536 → sec < 256 →
    ∃ t, exec (.setClock tag (u16 m ++ u8 sec ++ [0])) s = .next t ∧
      t.env.clock = { s.env.clock with isSet := true, minute := min 10079 m, second := min 59 sec
                                       tariff := t.env.clock.tariff } ∧
      t.env.clock.tariff = tariffOf t.env.cfg t.env.clock ∧
      t.env.cfg = s.env.cfg ∧ t.env.level = s.env.level ∧ t.env.sys = s.env.sys ∧ t.pending = s.pending ∧
      t.link = repliedLink s (if m ≤ 10079 ∧ sec ≤ 59 then replyTo s 0x17 tag .ok [] .nothing
        else replyTo s 0x17 tag .clamped (u16 (min 10079 m) ++ u8 (min 59 sec)) .nothing)) ∧
  ∀ (tag : Byte) (body : List Byte) (s : State), tag ≠ 0 → s.clearToAnswer = true →
    body.length ≠ 4 ∨ body.getLast? ≠ some 0 →
    exec (.setClock tag body) s = .next { s with link := repliedLink s (replyTo s 0x17 tag .form [] .nothing) }

/-- R26, R30: the tariff line's contact is seen through a debounce; a change of the reported state sets the stale count to 0, marks
the line cheap start at CLOSED and measures the learned length at OPEN, for a complete period of 30..1440 minutes alone; a tick
of the minute counter raises the stale count to at most 1800 and the minutes since the line went cheap. -/
def Obligations.TariffLine : Prop :=
  (∀ (k : Contact) (s : State), s.env.sys.mode ≠ .commission →
    exec (.tariffContactChange k) s = .next { s with env := { s.env with
      pins := { s.env.pins with tariff := k }
      clock := { s.env.clock with lineDebounce :=
        if k = s.env.clock.line then none else some (s.env.clock.lineDebounce.getD 0) } } }) ∧
  (∀ (k : Contact) (s : State), s.env.sys.mode = .commission →
    exec (.tariffContactChange k) s = .next { s with env := { s.env with pins := { s.env.pins with tariff := k } } }) ∧
  (∀ s : State, s.env.clock.lineDebounce = none → exec .tariffDebounceExpiry s = .next s) ∧
  (∀ s : State, s.env.clock.lineDebounce.isSome = true → ∃ t, exec .tariffDebounceExpiry s = .next t ∧
    t.env = { s.env with clock := t.env.clock } ∧ t.link = s.link ∧ t.pending = s.pending ∧
    t.env.clock.tariff = tariffOf t.env.cfg t.env.clock ∧ t.env.clock.stale = 0 ∧ t.env.clock.lineDebounce = none ∧
    t.env.clock.isSet = s.env.clock.isSet ∧ t.env.clock.minute = s.env.clock.minute ∧
    t.env.clock.second = s.env.clock.second ∧
    (s.env.clock.line = .opened → t.env.clock.line = .closed ∧ t.env.clock.lineCheap = some ⟨0, true⟩ ∧
      t.env.clock.learned = s.env.clock.learned) ∧
    (s.env.clock.line = .closed → t.env.clock.line = .opened ∧ t.env.clock.lineCheap = none ∧
      (∀ m, s.env.clock.lineCheap = some ⟨m, true⟩ → 30 ≤ m → m ≤ 1440 → t.env.clock.learned = m) ∧
      ((∀ m, s.env.clock.lineCheap = some ⟨m, true⟩ → m < 30 ∨ 1440 < m) →
        t.env.clock.learned = s.env.clock.learned))) ∧
  ∀ s : State, ∃ t, exec .lineMinuteTick s = .next t ∧ t.link = s.link ∧ t.pending = s.pending ∧
    t.env = { s.env with clock := { s.env.clock with
      stale := min 1800 (s.env.clock.stale + 1), lineSecs := 0, tariff := t.env.clock.tariff
      lineCheap := s.env.clock.lineCheap.map fun l => ⟨min 65535 (l.minutes + 1), l.complete⟩ } } ∧
    (s.env.clock.stale = 1799 → t.env.clock.tariff = tariffOf t.env.cfg t.env.clock)

/-- R23, R24: WRITE TARIFF WINDOWS takes a list of at most 8 windows with every start and end within the week, no start equal to
its own end or to the end of another, and no minute in two of them, answers OK and evaluates the tariff state; any other list
is refused with RANGE, and during a commit the request is answered BUSY. A refused request leaves the calendar as it was. -/
def Obligations.WriteTariffWindows : Prop :=
  ∀ (tag : Byte) (ws : List Window) (s : State), tag ≠ 0 → s.clearToAnswer = true → ws.length ≤ 61 →
    (∀ w ∈ ws, w.start < 65536 ∧ w.stop < 65536) →
    (let body := u8 ws.length ++ ws.flatMap (fun w => u16 w.start ++ u16 w.stop) ++ [0]
     let admitted := ws.length ≤ 8 ∧ (∀ w ∈ ws, w.start ≤ 10079 ∧ w.stop ≤ 10079 ∧ w.start ≠ w.stop) ∧
       ws.Pairwise (fun a b => a.stop ≠ b.start ∧ b.stop ≠ a.start ∧
         ∀ m, m < 10080 → ¬ (a.covers m = true ∧ b.covers m = true))
     (s.env.sys.commit = none → admitted →
       ∃ t, exec (.writeTariffWindows tag body) s = .next t ∧ t.env.cfg = { s.env.cfg with windows := ws } ∧
         t.env.clock = { s.env.clock with tariff := t.env.clock.tariff } ∧
         t.env.clock.tariff = tariffOf t.env.cfg t.env.clock ∧ t.env.level = s.env.level ∧ t.env.sys = s.env.sys ∧
         t.pending = s.pending ∧ t.link = repliedLink s (replyTo s 0x14 tag .ok [] .nothing)) ∧
     (s.env.sys.commit = none → ¬ admitted →
       exec (.writeTariffWindows tag body) s =
         .next { s with link := repliedLink s (replyTo s 0x14 tag .range [] .nothing) }) ∧
     (s.env.sys.commit.isSome = true →
       exec (.writeTariffWindows tag body) s =
         .next { s with link := repliedLink s (replyTo s 0x14 tag .busy [] .nothing) }))

/-- R27: every step keeps the tariff state equal to what an evaluation from the basis in force would give. -/
def Obligations.TariffFollowsBasis : Prop :=
  ∀ s t : State, TariffSound s → step s = .next t → TariffSound t

/-! ### Load-share unit (Part 3) -/

/-- R44: whatever step is taken, the granted sum stays within the cap in force. -/
def Obligations.CapKeptByStep : Prop := ∀ s t : State, CapKept s → step s = .next t → CapKept t

/-- R35, R37, R38, R39: a claim of an IDLE record draws a claim sequence and waits; one of another class takes the class and a new
sequence, a GRANTED record keeping its grant; one of the same class has no effect; a release makes the record IDLE. Every other
record stands. A draw at the counter's top renumbers the present sequences first, in their order. -/
def Obligations.ClaimAndRelease : Prop :=
  ∀ (t : LoadTable) (l : Load) (c : LoadClass),
    (t.claimCounter < 4294967295 →
      (∀ l', l' ≠ l → (t.take l c).claim l' = t.claim l') ∧
      (t.take l c).grantCounter = t.grantCounter ∧ (t.take l c).cap = t.cap ∧ (t.take l c).capCheap = t.capCheap ∧
      (t.claim l = .idle →
        (t.take l c).claim l = .waiting c t.claimCounter ∧ (t.take l c).claimCounter = t.claimCounter + 1) ∧
      (∀ k n, t.claim l = .waiting k n → k ≠ c →
        (t.take l c).claim l = .waiting c t.claimCounter ∧ (t.take l c).claimCounter = t.claimCounter + 1) ∧
      (∀ k n g, t.claim l = .granted k n g → k ≠ c →
        (t.take l c).claim l = .granted c t.claimCounter g ∧ (t.take l c).claimCounter = t.claimCounter + 1) ∧
      ((t.claim l).cls? = some c → t.take l c = t)) ∧
    (t.claimCounter = 4294967295 →
      t.readyClaim.claimCounter = (allLoads.filter fun l' => t.claim l' ≠ .idle).length + 1 ∧
      (∀ l', (t.readyClaim.claim l').cls? = (t.claim l').cls? ∧ (t.readyClaim.claim l').grant? = (t.claim l').grant?) ∧
      ∀ l₁ l₂ a b, (t.claim l₁).seq? = some a → (t.claim l₂).seq? = some b →
        ∃ a' b', (t.readyClaim.claim l₁).seq? = some a' ∧ (t.readyClaim.claim l₂).seq? = some b' ∧ (a < b ↔ a' < b')) ∧
    (t.release l).claim l = .idle ∧ (∀ l', l' ≠ l → (t.release l).claim l' = t.claim l') ∧
    (t.release l).cap = t.cap ∧ (t.release l).claimCounter = t.claimCounter

/-- R40, R41: a grant walk leaves every granted pump and every FREEZE zone granted in its class, grants nothing that was not
waiting, and grants no entry past an entry of a more urgent class that it left waiting. The entry at the head of the list is granted
where the free room, with the ratings of the granted zones of less urgent classes, covers its rating; any other is left waiting only
behind a more urgent class that waits, or for want of room. -/
def Obligations.WalkOrder : Prop :=
  ∀ (c : Settings) (t : LoadTable),
    (∀ l k n g, t.claim l = .granted k n g → (∃ p, l = .pump p) ∨ k = .freeze →
      ∃ n' g', (walk c t).1.claim l = .granted k n' g') ∧
    (∀ l, ((walk c t).1.claim l).isGranted = true → t.claim l ≠ .idle) ∧
    (∀ l, t.claim l = .idle → (walk c t).1.claim l = .idle) ∧
    (walk c t).1.cap = t.cap ∧
    ((∀ l k n, t.claim l = .waiting k n → n < 4294967296) →
      ∀ l l' k k' n n', t.claim l = .waiting k n → t.claim l' = .waiting k' n' → k'.number < k.number →
        ((walk c t).1.claim l').isGranted = false → ((walk c t).1.claim l).isGranted = false) ∧
    ((∀ l k n, t.claim l = .waiting k n → n < 4294967296) →
      (∀ l k n, t.claim l = .waiting k n →
        (∀ l' k' n', l' ≠ l → t.claim l' = .waiting k' n' → k.number < k'.number ∨ (k = k' ∧ n < n')) →
        rating c l ≤ (t.cap - grantedSum c t) + ((allZones.filter fun z => match t.zones.get z with
          | .granted k' _ _ => k.number < k'.number | _ => false).map c.zoneRating.get).sum →
        ((walk c t).1.claim l).isGranted = true) ∧
      ∀ l k n, t.claim l = .waiting k n → ((walk c t).1.claim l).isGranted = false →
        (∃ l' k' n', t.claim l' = .waiting k' n' ∧ k'.number < k.number ∧ ((walk c t).1.claim l').isGranted = false) ∨
          t.cap < grantedSum c (walk c t).1 + rating c l)

/-- R33, R43: the cap set again is the one the tariff state selects. A granted sum within the new cap loses nothing; otherwise
grants are revoked until the sum is within it, no grant of a more urgent class while one of a less urgent class stands, and in
a class the most recent first; and no more of them: for each grant revoked, the sum left by revoking only those before it in that order
still exceeds the new cap. -/
def Obligations.CapChange : Prop :=
  ∀ (c : Settings) (cheap : Bool) (t : LoadTable), grantedSum c t ≤ t.cap →
    let u := (t.setCap c cheap).1
    u.cap = (if cheap then c.capCheap else c.capDear) ∧ u.capCheap = cheap ∧ grantedSum c u ≤ u.cap ∧
    (grantedSum c t ≤ u.cap → ∀ l, u.claim l = t.claim l) ∧
    (∀ l, (u.claim l).cls? = (t.claim l).cls?) ∧
    ((∀ l k n g, t.claim l = .granted k n g → g < 4294967296) →
      ∀ l l' k k' n n' g g', t.claim l = .granted k n g → t.claim l' = .granted k' n' g' →
        k.number < k'.number ∨ (k = k' ∧ g < g') → (u.claim l).isGranted = false → (u.claim l').isGranted = false) ∧
    ((∀ l k n g, t.claim l = .granted k n g → g < 4294967296) →
      ∀ l k n g, t.claim l = .granted k n g → (u.claim l).isGranted = false →
        let left := allLoads.filter fun l' => match t.claim l' with
          | .granted k' _ g' => !decide (k.number < k'.number ∨ (k = k' ∧ g < g'))
          | _ => false
        u.cap < (left.map (rating c)).sum)

/-! ### Pump unit (Part 4) -/

/-- R66, R67: a failure to start, a loss of run and a feedback without a command each lock the pump out: its contactor is open, its
claim released, its demands empty, its place on the duty list gone. Where the end of the feedback time or a feedback without a
command finds nothing of R66, nothing but the state timer changes. (That a STARTING pump whose feedback is PRESENT at the end of the
feedback time stays STARTING is the model's inference, log 22; that the end sets the timer to the feedback time is the model's
choice, log 2.) -/
def Obligations.PumpFaultsLockOut : Prop :=
  ∀ (p : Pump) (s : State),
    (let r := s.plant.pumps.recs.get p
     let lockedOut := fun t : State =>
       t.link = s.link ∧ t.pending = s.pending ∧ (t.plant.pumps.recs.get p).state = .lockout ∧
       (t.plant.pumps.recs.get p).run = none ∧ (t.plant.pumps.recs.get p).served = .empty ∧
       t.plant.load.pumps.get p = .idle ∧ p ∉ t.plant.pumps.duty
     let seen := if s.env.sys.mode = .commission then r.simFeedback else s.env.pins.feedback.get p
     (r.state = .starting → seen = .absent →
       ∃ t, exec (.feedbackTimeExpiry p) s = .next t ∧ t.env = s.env ∧ lockedOut t) ∧
     (r.state = .starting → seen = .present →
       exec (.feedbackTimeExpiry p) s = .next { s with plant := (s.plant.setPump p
         { r with timer := max r.timer s.env.cfg.set.feedbackTime }) }) ∧
     (r.state ≠ .starting → exec (.feedbackTimeExpiry p) s = .next s) ∧
     (pumpNumber p ≤ s.env.cfg.set.pumpsFitted → r.state = .running → s.env.sys.mode ≠ .commission →
       s.env.pins.feedback.get p = .present →
       ∃ t, exec (.runFeedbackChange p .absent) s = .next t ∧ lockedOut t ∧
         t.env = { s.env with pins := { s.env.pins with feedback := s.env.pins.feedback.set p .absent } }) ∧
     (pumpNumber p ≤ s.env.cfg.set.pumpsFitted → r.state = .off ∨ r.state = .called ∨ r.state = .resting →
       seen = .present → ∃ t, exec (.feedbackWithoutCommand p) s = .next t ∧ t.env = s.env ∧ lockedOut t) ∧
     (s.env.cfg.set.pumpsFitted < pumpNumber p ∨ (r.state ≠ .off ∧ r.state ≠ .called ∧ r.state ≠ .resting) ∨
       seen = .absent → exec (.feedbackWithoutCommand p) s = .next s))

/-- R60, R56: the end of the start spacing lets the CALLED pump at the lowest of the first n duty places with a GRANTED claim start
when the inlet is IDLE, its position and target at least P_open, and no pump is STARTING; and when, besides, the calls stand in line
(none called above n, none of the first n OFF, the inlet request standing exactly where a pump is called). With one of these failing no
pump starts. A start closes the contactor, sets both timers to 0, stamps the run and hands PUMP_STARTS. (That the calls must stand in
line is no condition of R60 a to d, R56 or R57: it is the model's inference, log 61, DEDUCED from the place R57 d gives its start check.
That the end sets the spacing timer to the start spacing is the model's choice, log 2. The guard is settled: a start changes nothing it
tests.) -/
def Obligations.StartSpacingElapsed : Prop :=
  ∀ s : State, guardSettled s.env s.plant →
    let u := s.plant.pumps
    let inlet := s.plant.valves.inlet
    let n := if s.env.sys.mode = .setup then 0 else
      let d := max (max u.fillK u.boostK) (if u.reserve ∨ u.circ then 1 else 0)
      min (match u.limit with | .none => d | .one => min 1 d | .zero => 0) u.duty.length
    let first := u.duty.take n
    let ready := fun p => (u.recs.get p).state = .called ∧ (s.plant.load.pumps.get p).isGranted = true
    let mayStart := (∀ q ∈ u.duty.drop n, (u.recs.get q).served = .empty) ∧ (∀ q ∈ first, (u.recs.get q).state ≠ .off) ∧
      (u.inletRequest = true ↔ ∃ q, (u.recs.get q).served ≠ .empty) ∧ inlet.state = .idle ∧ (∃ x, inlet.position = some x ∧ s.env.cfg.set.pOpen ≤ x) ∧
      (∃ x, inlet.target = some x ∧ s.env.cfg.set.pOpen ≤ x) ∧ ∀ p, (u.recs.get p).state ≠ .starting
    (∀ p before after, mayStart → first = before ++ p :: after → ready p → (∀ q ∈ before, ¬ ready q) →
      exec .spacingTimerElapsed s = .next { s with plant := (({ s.plant with pumps := ({ u with
        spacing := 0
        recs := u.recs.set p { u.recs.get p with
          state := .starting, timer := 0, simSecs := 0, feedbackSecs := 0
          run := some ⟨if s.env.clock.isSet then some ⟨s.env.clock.minute, s.env.clock.second⟩ else none, 0⟩ } }) } :
            Plant).event s.env .pumpStarts 1) }) ∧
    ((¬ mayStart ∨ ∀ p ∈ first, ¬ ready p) →
      exec .spacingTimerElapsed s = .next { s with plant := { s.plant with pumps :=
        { u with spacing := max u.spacing s.env.cfg.set.startSpacing } } })

/-- R61 a, R64, R68, R72 c: feedback in STARTING brings RUNNING; a rest ends in OFF when the pump is not called, and in CALLED when
it is, its claim kept; the stagnation timer counts while no pump is RUNNING; the simulated feedback of an open contactor goes.
(The guard is settled and no rate is known, so a running pump brings no fast mark.) -/
def Obligations.PumpTimers : Prop :=
  ∀ (p : Pump) (s : State),
    let u := s.plant.pumps
    let r := u.recs.get p
    (pumpNumber p ≤ s.env.cfg.set.pumpsFitted → s.env.sys.mode ≠ .commission → guardSettled s.env s.plant →
      s.env.level.rate = none → r.state = .starting → r.served.circ = false → s.env.pins.feedback.get p = .absent →
      (∀ q, (u.recs.get q).state ≠ .called) →
      exec (.runFeedbackChange p .present) s = .next { s with
        env := { s.env with pins := { s.env.pins with feedback := s.env.pins.feedback.set p .present } }
        plant := { s.plant with pumps := { u with stagnation := 0, stagnationSecs := 0, recs := (u.recs.set p
          { r with state := .running, timer := 0, windowMark := r.windowMark || u.windowOpen }) } } }) ∧
    (pumpNumber p ≤ s.env.cfg.set.pumpsFitted → guardSettled s.env s.plant → r.state = .resting → r.served = .empty →
      exec (.restEnd p) s =
        .next { s with plant := s.plant.setPump p { r with state := .off, timer := 0 } }) ∧
    (pumpNumber p ≤ s.env.cfg.set.pumpsFitted → guardSettled s.env s.plant → r.state = .resting →
      r.served.any = true → (s.plant.load.pumps.get p).cls? = r.callClass → s.plant.valves.inlet.state ≠ .idle →
      exec (.restEnd p) s =
        .next { s with plant := s.plant.setPump p { r with state := .called, timer := 0 } }) ∧
    (s.env.cfg.set.pumpsFitted < pumpNumber p ∨ r.state ≠ .resting → exec (.restEnd p) s = .next s) ∧
    ((∀ q, (u.recs.get q).state ≠ .running) →
      exec .stagnationMinute s = .next { s with plant := { s.plant with pumps :=
        { u with stagnation := min 65535 (u.stagnation + 1), stagnationSecs := 0 } } }) ∧
    ((∃ q, (u.recs.get q).state = .running) → exec .stagnationMinute s = .next s) ∧
    (s.env.sys.mode ≠ .commission → exec (.simulatedFeedbackChange p) s = .next s) ∧
    (pumpNumber p ≤ s.env.cfg.set.pumpsFitted → s.env.sys.mode = .commission → r.simFeedback = .present →
      r.state = .off ∨ r.state = .called ∨ r.state = .resting →
      exec (.simulatedFeedbackChange p) s =
        .next { s with plant := s.plant.setPump p { r with simFeedback := .absent, feedbackSecs := 0 } })

/-- R70, R71: LOCK PUMP takes a fitted pump into OUT, its contactor open and its place on the duty list gone, and is refused with
STATE in COMMISSION; UNLOCK PUMP brings a pump in LOCKOUT or OUT to RESTING with its timer at 0 and puts it on the duty list,
and is refused with STATE in any other state; a number of no fitted pump is refused with STATE (numbers outside 1..3 too: the
model's choice, log 15). R55, the rotation of the duty list: a window start sets the window-open flag and marks exactly the RUNNING
pumps, a window end clears the flag and ends in a rotation request; the request has no effect on an empty list or where the lead pump's
mark is clear, moves an uncalled lead pump to the tail at once, and becomes pending where the lead pump is called; a pending rotation is
taken in a call evaluation after the uncalls, once the lead pump is not called; it is dropped where the lead pump leaves the list and
by a restart. (That the rotation of a list of one pump is handed on as a change is the model's choice, log 78.) -/
def Obligations.LockUnlockPump : Prop :=
  (∀ (e : Env) (P : Plant),
    let u := P.pumps
    let rotated := fun (p : Pump) (rest : List Pump) =>
      ({ P with pumps := { u with duty := rest ++ [p], rotationPending := false } }, [Sig.dutyChanged])
    handle .pumpsWindowStart e P = ({ P with pumps := { u with
      windowOpen := true, recs := u.recs.map fun r => { r with windowMark := r.state == .running } } }, []) ∧
    handle .pumpsWindowEnd e P = ({ P with pumps := { u with windowOpen := false } }, []) ∧
    (∃ before, (handle .fillWindowEnd e P).2 = before ++ [.planEval, .pumpsWindowEnd, .rotationRequest]) ∧
    (u.duty = [] → handle .rotationRequest e P = (P, []) ∧ handle .rotationCheck e P = (P, [])) ∧
    (∀ p rest, u.duty = p :: rest →
      let r := u.recs.get p
      (r.windowMark = false → handle .rotationRequest e P = (P, [])) ∧
      (r.windowMark = true → r.served = .empty → handle .rotationRequest e P = rotated p rest) ∧
      (r.windowMark = true → r.served ≠ .empty →
        handle .rotationRequest e P = ({ P with pumps := { u with rotationPending := true } }, [])) ∧
      (u.rotationPending = true → r.served = .empty → handle .rotationCheck e P = rotated p rest) ∧
      (u.rotationPending = false ∨ r.served ≠ .empty → handle .rotationCheck e P = (P, []))) ∧
    handle .callEval e P = (P, [.callUncalls, .rotationCheck, .callServe, .callCalls, .inletRequest, .startCheck])) ∧
  (∀ (s : State) (c : Instr), c = .powerOn ∨ c = .supplyDipRestart ∨ c = .resetLine →
    ∃ t, exec c s = .next t ∧ t.plant.pumps.rotationPending = false) ∧
  ∀ (tag : Byte) (p : Pump) (s : State), tag ≠ 0 → s.clearToAnswer = true →
    let body := u8 (pumpNumber p) ++ [0]
    let r := s.plant.pumps.recs.get p
    (s.env.sys.mode ≠ .commission → pumpNumber p ≤ s.env.cfg.set.pumpsFitted →
      (r.state = .out →
        exec (.lockPump tag body) s = .next { s with link := repliedLink s (replyTo s 0x26 tag .ok [] .nothing) }) ∧
      (r.state = .lockout → p ∉ s.plant.pumps.duty →
        ∃ t, exec (.lockPump tag body) s = .next t ∧ t.env = s.env ∧ t.pending = s.pending ∧
          t.link = repliedLink s (replyTo s 0x26 tag .ok [] .nothing) ∧
          (t.plant.pumps.recs.get p).state = .out ∧ p ∉ t.plant.pumps.duty) ∧
      (r.state ≠ .out → r.state ≠ .lockout →
        ∃ t, exec (.lockPump tag body) s = .next t ∧ t.env = s.env ∧ t.pending = s.pending ∧
          t.link = repliedLink s (replyTo s 0x26 tag .ok [] .nothing) ∧
          (t.plant.pumps.recs.get p).state = .out ∧ (t.plant.pumps.recs.get p).run = none ∧
          (t.plant.pumps.recs.get p).served = .empty ∧ t.plant.load.pumps.get p = .idle ∧ p ∉ t.plant.pumps.duty ∧
          (s.plant.pumps.duty.head? = some p → t.plant.pumps.rotationPending = false))) ∧
    (s.env.sys.mode = .commission ∨ s.env.cfg.set.pumpsFitted < pumpNumber p →
      exec (.lockPump tag body) s = .next { s with link := repliedLink s (replyTo s 0x26 tag .state [] .nothing) }) ∧
    (pumpNumber p ≤ s.env.cfg.set.pumpsFitted → r.state = .lockout ∨ r.state = .out →
      ∃ t, exec (.unlockPump tag body) s = .next t ∧ t.env = s.env ∧ t.pending = s.pending ∧
        t.link = repliedLink s (replyTo s 0x27 tag .ok [] .nothing) ∧
        (t.plant.pumps.recs.get p).state = .resting ∧ (t.plant.pumps.recs.get p).timer = 0 ∧ p ∈ t.plant.pumps.duty) ∧
    (s.env.cfg.set.pumpsFitted < pumpNumber p ∨ (r.state ≠ .lockout ∧ r.state ≠ .out) →
      exec (.unlockPump tag body) s = .next { s with link := repliedLink s (replyTo s 0x27 tag .state [] .nothing) }) ∧
    ∀ n : Nat, n < 256 → n = 0 ∨ 3 < n →
      exec (.lockPump tag (u8 n ++ [0])) s = .next { s with link := repliedLink s (replyTo s 0x26 tag .state [] .nothing) } ∧
      exec (.unlockPump tag (u8 n ++ [0])) s = .next { s with link := repliedLink s (replyTo s 0x27 tag .state [] .nothing) }

/-- R60: whatever step is taken, at most one pump is STARTING. R52, R56, R60, R65: whatever step is taken, a pump that is STARTING or
RUNNING has a GRANTED claim, stands on the duty list and is called; the guard is in neither SHUT nor TRIP, its limit is not ZERO and the
mode is not SETUP; and the inlet's position is known, and it and the target are at least P_open. (The second in an event whose
hand-overs were not cut short at the model's bound, log 4.) -/
def Obligations.OnePumpStarts : Prop :=
  (∀ s t : State, OneStarting s → step s = .next t → OneStarting t) ∧
  ∀ s t : State, PumpsSound s → step s = .next t → PumpsSound t

/-- R54: whatever step is taken, the duty list holds exactly the available pumps, none twice. -/
def Obligations.DutyListKept : Prop := ∀ s t : State, DutyListSound s → step s = .next t → DutyListSound t

/-! ### Valve unit (Part 5) -/

/-- R76, R77, R78, R79, R80, R84: each step moves a MOVING valve by one position toward its target and a homing by one count; before a
motion's first step the end-stop's reading decides whether a stuck switch is tested and which phase a homing begins with. The step that
reaches the target leaves the valve IDLE there and ends the operation in flight with DONE COMPLETE. A CLOSED end-stop in a closing move
sets the position to 0, from above 20 with VALVE_SLIP, and the move goes on from there; one still OPEN at 0 begins a seat search of 50
steps. A seek that closes succeeds at 0. A stuck switch and a search or homing that fails end in FAULT with its condition. (That the
reading after a move's last step acts before the move ends, so that a CLOSED one after the 30th step of an opening move of 30 brings
FAULT, is the model's choice, log 87.) A valve that is not MOVING or HOMING gives no step. DUMP_OPENS is handed as the dump leaves 0. R90: in COMMISSION the simulated stem follows the step
and stands for both readings of the end-stop. R89, R90: the step output is driven while the valve is MOVING or HOMING, in SETUP and RUN
alone, and the direction output with it, toward the target, or out of a back-off and into a seek; in COMMISSION neither is. (For the
inlet, no pump is called, and the guard is settled where a FAULT comes.) R59, R60, R82: with the inlet request standing, the success of
a homing asked by the pumps is followed in the same step by the move to P_fill; and the step that brings the inlet to rest at P_fill
starts the first pump that R60 allows. -/
def Obligations.ValveSteps : Prop :=
  (∀ (v : ValveId) (k : EndStop) (s : State), (v = .inlet → pumpsQuiet s.plant) →
    let q := s.plant.valves.get v
    let sim := s.env.sys.mode = .commission
    let stop := fun x : Int => if x ≤ 0 then Contact.closed else .opened
    let before := if sim then stop q.stem else k.before
    let r := if q.unread = false then q else match q.state with
      | .moving => { q with unread := false, stuck := match q.position, q.target with
          | some x, some y => if x < y ∧ before = .closed then some 0 else none | _, _ => none }
      | .homing => { q with unread := false, phase := some (if before = .closed then .backOff 0 else .seek 0) }
      | _ => q
    let opening := match r.state, r.position, r.target, r.phase with
      | .moving, some x, some y, _ => decide (x < y)
      | .homing, _, _, some (.backOff _) => true
      | _, _, _, _ => false
    let stem := if sim then (if opening then q.stem + 1 else q.stem - 1) else q.stem
    let after := if sim then stop stem else k.after
    let seen := fun w : Valve => { w with stem := stem, endStop := if sim then q.endStop else k.after }
    let opens := fun (n : Nat) (P : Plant) => if v = .dump ∧ n = 0 then P.event s.env .dumpOpens 1 else P
    let leaves := fun (w : Valve) => exec (.valveStep v k) s = .next { s with plant := s.plant.setValve v (seen w) }
    let fails := s.plant.alarms.table.length = 24 → (v = .inlet → guardSettled s.env s.plant) →
      ∃ t, exec (.valveStep v k) s = .next t ∧ t.env = s.env ∧ t.link = s.link ∧ t.pending = s.pending ∧
        (t.plant.valves.get v).state = .fault ∧ (t.plant.valves.get v).position = none ∧
        (t.plant.valves.get v).target = none ∧ (t.plant.alarms.get (valveFault v)).state.present = true
    let closes := fun (y : Nat) (w : Valve) => if y = 0 then
        { w with state := .idle, position := some 0, target := some 0, phase := none, seat := none, stuck := none }
      else { w with state := .moving, position := some 0, target := some y, phase := none, seat := none, stuck := some 0 }
    let driven := (q.state = .moving ∨ q.state = .homing) ∧ (s.env.sys.mode = .setup ∨ s.env.sys.mode = .run)
    (r.state ≠ .moving → r.state ≠ .homing → exec (.valveStep v k) s = .next s) ∧
    (q.stepOutput s.env = true ↔ driven) ∧ (driven → r.directionOutput s.env = some opening) ∧
    (¬ driven → q.directionOutput s.env = none) ∧
    (∀ x y, r.state = .moving → r.position = some x → r.target = some y → r.seat = none → r.fromFault = false →
      (x < y → r.stuck = none → x + 1 ≠ y → exec (.valveStep v k) s =
        .next { s with plant := opens x (s.plant.setValve v (seen { r with position := some (x + 1) })) }) ∧
      (∀ n, x < y → r.stuck = some n → after = .opened ∨ n + 1 < 30 → x + 1 ≠ y → exec (.valveStep v k) s =
        .next { s with plant := opens x (s.plant.setValve v (seen { r with
          position := some (x + 1), stuck := if after = .closed then some (n + 1) else none })) }) ∧
      (∀ n, x < y → r.stuck = some n → after = .closed → 30 ≤ n + 1 → fails) ∧
      (y < x → after = .opened → x ≠ 1 → x ≠ y + 1 → leaves { r with position := some (x - 1) }) ∧
      (x + 1 = y → r.stuck = none → r.op = none → exec (.valveStep v k) s = .next { s with plant := opens x (s.plant.setValve v
        (seen { r with state := .idle, position := some y, phase := none })) }) ∧
      (∀ op, x = y + 1 → 0 < y → after = .opened → r.op = some op → r.owner = .host → exec (.valveStep v k) s =
        .next { s with plant := { s.plant with
          valves := s.plant.valves.set v (seen { r with
            state := .idle, position := some y, phase := none, stuck := none, op := none, owner := .none })
          telem := { s.plant.telem with queue := s.plant.telem.queue ++
            [⟨.done, op.tag, [0, op.kind, (if v = .inlet then 0 else 1), 1] ++ u16 y ++ [0, 0]⟩] } } }) ∧
      (y < x → after = .closed → x ≤ 21 → r.op = none → leaves (closes y r)) ∧
      (y < x → after = .closed → 21 < x → s.plant.alarms.table.length = 24 → r.op = none →
        (s.plant.alarms.get .valveSlip).state = .quiet → ∃ t, exec (.valveStep v k) s = .next t ∧ SameOutside s t ∧
          t.plant.valves = s.plant.valves.set v (seen (closes y r)) ∧
          (t.plant.alarms.get .valveSlip).state = .latched ∧
          t.plant.pumps = s.plant.pumps ∧ t.plant.load = s.plant.load ∧ t.plant.guard = s.plant.guard) ∧
      (y = 0 → x = 1 → after = .opened → leaves { r with position := some 0, seat := some 0 })) ∧
    (∀ n y, r.state = .moving → r.position = some 0 → r.target = some y → r.seat = some n → r.fromFault = false →
      (after = .closed → r.op = none → leaves (closes y r)) ∧
      (after = .opened → n + 1 < 50 → leaves { r with seat := some (n + 1) }) ∧
      (after = .opened → 50 ≤ n + 1 → fails)) ∧
    (∀ n, r.state = .homing → r.phase = some (.backOff n) →
      (after = .opened → leaves { r with phase := some (.seek 0) }) ∧
      (after = .closed → n + 1 < 50 → leaves { r with phase := some (.backOff (n + 1)) }) ∧
      (after = .closed → 50 ≤ n + 1 → fails)) ∧
    ∀ n, r.state = .homing → r.phase = some (.seek n) →
      (after = .opened → n + 1 < 1100 → leaves { r with phase := some (.seek (n + 1)) }) ∧
      (after = .opened → 1100 ≤ n + 1 → fails) ∧
      (after = .closed → r.op = none → r.fromFault = false → r.owner ≠ .pumps →
        leaves (closes (match r.target with | some y => y | none => 0) r)) ∧
      (after = .closed → v = .dump → r.fromFault = true → r.saved = none → s.plant.alarms.table.length = 24 →
        ∃ t, exec (.valveStep v k) s = .next t ∧ SameOutside s t ∧ t.plant.valves.dump.fromFault = false ∧
          t.plant.valves.dump.position = some 0 ∧ (t.plant.alarms.get .dumpValveFault).state.present = false)) ∧
  (∀ (k : EndStop) (s : State), s.env.sys.mode ≠ .commission →
    let r := s.plant.valves.inlet
    let fill := s.env.cfg.set.pFill
    (∀ q, (s.plant.pumps.recs.get q).state ≠ .starting ∧ (s.plant.pumps.recs.get q).state ≠ .running) →
    s.plant.pumps.inletRequest = true → r.state = .homing → (∃ n, r.phase = some (.seek n)) → r.unread = false →
    r.owner = .pumps → r.target = none → r.op = none → r.fromFault = false → k.after = .closed → 0 < fill →
    exec (.valveStep .inlet k) s = .next { s with plant := (s.plant.setValve .inlet { r with
      endStop := .closed, state := .moving, position := some 0, target := some fill, unread := true, phase := none, seat := none
      stuck := some 0, waiting := none }) }) ∧
  ∀ (k : EndStop) (s : State), s.env.sys.mode ≠ .commission → guardSettled s.env s.plant →
    let r := s.plant.valves.inlet
    let u := s.plant.pumps
    let y := s.env.cfg.set.pFill
    let n := if s.env.sys.mode = .setup then 0 else
      let d := max (max u.fillK u.boostK) (if u.reserve ∨ u.circ then 1 else 0)
      min (match u.limit with | .none => d | .one => min 1 d | .zero => 0) u.duty.length
    let ready := fun p => (u.recs.get p).state = .called ∧ (s.plant.load.pumps.get p).isGranted = true
    ∀ p before after, u.duty.take n = before ++ p :: after → ready p → (∀ q ∈ before, ¬ ready q) →
    (∀ q ∈ u.duty.drop n, (u.recs.get q).served = .empty) → (∀ q ∈ u.duty.take n, (u.recs.get q).state ≠ .off) →
    (∀ q, (u.recs.get q).state ≠ .starting ∧ (u.recs.get q).state ≠ .running) → s.env.cfg.set.startSpacing ≤ u.spacing →
    u.inletRequest = true → (∃ q, (u.recs.get q).served ≠ .empty) → s.env.cfg.set.pOpen ≤ y → 0 < y →
    r.state = .moving → r.position = some (y - 1) → r.target = some y → r.unread = false → r.seat = none → r.stuck = none →
    r.fromFault = false → r.op = none →
    exec (.valveStep .inlet k) s = .next { s with plant := (({ s.plant with
      valves := s.plant.valves.set .inlet { r with endStop := k.after, state := .idle, position := some y, phase := none }
      pumps := { u with
        spacing := 0
        recs := u.recs.set p { u.recs.get p with
          state := .starting, timer := 0, simSecs := 0, feedbackSecs := 0
          run := some ⟨if s.env.clock.isSet then some ⟨s.env.clock.minute, s.env.clock.second⟩ else none, 0⟩ } } } :
            Plant).event s.env .pumpStarts 1) }

/-- R85, R76, R84: MOVE VALVE on a valve whose position is known and that no higher rank holds is accepted, its target brought to at
most 1000; an operation in flight ends first, with DONE SUPERSEDED, and the valve is HOST's with the new tag. From rest it sets out for
the target; in motion toward the new target as well it goes on, with its stuck-switch test; otherwise it turns. A target equal to
the position ends the operation at once with DONE COMPLETE, the valve IDLE there. In COMMISSION, for a valve owned by PUMPS or GUARD,
for the dump outside NORMAL and for an unknown position it is refused with STATE. (For the inlet, no pump is called. The end-stop is read
before the first step; until then the stuck-switch test stands by its last report, the model's choice, log 10; that a test goes on under
a target in the same direction is its inference, log 19.) -/
def Obligations.MoveValve : Prop :=
  ∀ (tag : Byte) (v : ValveId) (m : Nat) (s : State), tag ≠ 0 → m < 65536 → s.clearToAnswer = true →
    doneLoad s.env.sys s.plant < 4 →
    let code : Byte := if v = .inlet then 0 else 1
    let body := code :: u16 m ++ [0]
    let r := s.plant.valves.get v
    let y := min 1000 m
    let answered := if m ≤ 1000 then replyTo s 0x28 tag .accepted [] .nothing
      else replyTo s 0x28 tag .clamped (u16 y) .nothing
    let free := s.env.sys.mode ≠ .commission ∧ r.owner ≠ .pumps ∧ r.owner ≠ .guard ∧
      (v = .dump → s.plant.guard.core.state = .normal) ∧ r.position ≠ none
    (∀ x, free → (v = .inlet → pumpsQuiet s.plant) → r.state = .idle ∨ r.state = .moving → r.fromFault = false →
      r.position = some x →
      let superseded : List Notice := match r.op with
        | some o => [⟨.done, o.tag, [2, o.kind, code, if r.state = .idle then 1 else 2] ++ u16 x ++ [0, 0]⟩]
        | none => []
      let complete : List Notice := [⟨.done, tag, [0, 0x28, code, 1] ++ u16 y ++ [0, 0]⟩]
      let goesOn := r.state = .moving ∧ r.seat = none ∧ ∃ g, r.target = some g ∧ ((x < g ∧ x < y) ∨ (g < x ∧ y < x))
      let becomes := fun (w : Valve) (ended : List Notice) => exec (.moveValve tag body) s = .next { s with
        link := repliedLink s answered
        plant := { s.plant with
          valves := s.plant.valves.set v w
          telem := { s.plant.telem with queue := s.plant.telem.queue ++ ended } } }
      let turned : Valve := { r with
        owner := .host, op := some ⟨tag, 0x28⟩, state := .moving, target := some y, phase := none, seat := none
        stuck := if x < y ∧ r.endStop = .closed then some 0 else none }
      (y ≠ x → r.state = .idle → becomes { turned with unread := true } superseded) ∧
      (y ≠ x → goesOn → becomes { r with owner := .host, op := some ⟨tag, 0x28⟩, target := some y } superseded) ∧
      (y ≠ x → r.state = .moving → ¬ goesOn → becomes turned superseded) ∧
      (y = x → becomes { r with
        owner := .none, op := none, state := .idle, target := some y, unread := false, phase := none, seat := none
        stuck := none } (superseded ++ complete))) ∧
    (¬ free → exec (.moveValve tag body) s =
      .next { s with link := repliedLink s (replyTo s 0x28 tag .state [] .nothing) })

/-- R79, R84, R85, R86: HOME VALVE on a valve that no higher rank holds is accepted; an operation in flight ends first, with DONE
SUPERSEDED, and the valve is HOST's with the new tag. At rest or MOVING it begins a homing, backing off from a CLOSED end-stop and
seeking it otherwise (the phase stands by the end-stop's last report until it is read before the first step, the model's choice, log
10); a homing under way is taken over with its phase and step count, and no move follows it. STOP VALVE stops a valve of the station computer: a move stands IDLE where it is, a homing is left UNHOMED,
and the operation ends with DONE STOPPED; for another owner it is refused with STATE. (For the inlet, no pump is called.) -/
def Obligations.HomeAndStopValve : Prop :=
  ∀ (tag : Byte) (v : ValveId) (s : State), tag ≠ 0 → s.clearToAnswer = true →
    let body : List Byte := [if v = .inlet then 0 else 1, 0]
    let r := s.plant.valves.get v
    let free := s.env.sys.mode ≠ .commission ∧ r.owner ≠ .pumps ∧ r.owner ≠ .guard ∧
      (v = .dump → s.plant.guard.core.state = .normal)
    (doneLoad s.env.sys s.plant < 4 → free → (v = .inlet → pumpsQuiet s.plant) →
      let superseded : List Notice := match r.op with
        | some o => [⟨.done, o.tag, [2, o.kind, if v = .inlet then 0 else 1] ++ u8 r.state.code ++ u16? r.position ++ [0, 0]⟩]
        | none => []
      let becomes := fun w : Valve => exec (.homeValve tag body) s = .next { s with
        link := repliedLink s (replyTo s 0x29 tag .accepted [] .nothing)
        plant := { s.plant with
          valves := s.plant.valves.set v w
          telem := { s.plant.telem with queue := s.plant.telem.queue ++ superseded } } }
      (r.state ≠ .homing → r.fromFault = false → becomes { r with
        owner := .host, op := some ⟨tag, 0x29⟩, state := .homing, position := none, target := none
        fromFault := r.state == ValveState.fault, unread := true, seat := none, stuck := none
        phase := some (if r.endStop = .closed then .backOff 0 else .seek 0) }) ∧
      (r.state = .homing → becomes { r with owner := .host, op := some ⟨tag, 0x29⟩, target := none })) ∧
    (doneLoad s.env.sys s.plant < 4 → ¬ free → exec (.homeValve tag body) s =
      .next { s with link := repliedLink s (replyTo s 0x29 tag .state [] .nothing) }) ∧
    (∀ x op, r.owner = .host → r.op = some op → (v = .inlet → pumpsQuiet s.plant) → r.fromFault = false →
      r.state = .moving → r.position = some x → r.seat = none → exec (.stopValve tag body) s = .next { s with
        link := repliedLink s (replyTo s 0x2A tag .ok [] .nothing)
        plant := { s.plant with
          valves := s.plant.valves.set v
            { r with owner := .none, op := none, state := .idle, target := some x, unread := false, phase := none
                     stuck := none }
          telem := { s.plant.telem with queue := s.plant.telem.queue ++
            [⟨.done, op.tag, [4, op.kind, (if v = .inlet then 0 else 1), 1] ++ u16 x ++ [0, 0]⟩] } } }) ∧
    (∀ op, r.owner = .host → r.op = some op → (v = .inlet → pumpsQuiet s.plant) → r.fromFault = false →
      r.state = .homing → exec (.stopValve tag body) s = .next { s with
        link := repliedLink s (replyTo s 0x2A tag .ok [] .nothing)
        plant := { s.plant with
          valves := s.plant.valves.set v
            { r with owner := .none, op := none, state := .unhomed, position := none, target := none, unread := false
                     phase := none, seat := none, stuck := none }
          telem := { s.plant.telem with queue := s.plant.telem.queue ++
            [⟨.done, op.tag, [4, op.kind, (if v = .inlet then 0 else 1), 0, 0xFF, 0xFF, 0, 0]⟩] } } }) ∧
    (r.owner ≠ .host → exec (.stopValve tag body) s =
      .next { s with link := repliedLink s (replyTo s 0x2A tag .state [] .nothing) })

/-! ### Fill unit (Part 6) -/

/-- R94, R102, R105, R107, R168, R184: an expiry of the minute timer in an open window counts a window minute, and a blind minute while
a fill pump runs in BLIND_FILL, and none otherwise; a counted inflow pulse adds its litres to the litres since the previous point, to
INFLOW_LITRES and to the window inflow; the LOW wet timer turns the reserve OFF while the level is not usable. R103 to R106: a window
start (here by the tariff line) opens the window and its record, a window end closes them, updates the learned draw and tests the inflow
meter where the record is learnt from. (The running total in sixtieths of a litre is the model's choice, log 16; that the LOW wet
timer's end sets it to its 10 minutes is, too, log 2; that an expiry of the minute timer in the second of the window end is counted
first is, too, log 52; so is that the window record keeps its values after the window's end, log 34.) R93, R95 to R102, R113: a plan
evaluation chooses the state by the first line of R95's table that holds, keeps the topped mark as R96 says, computes the available
minutes, the need, the pumps needed (the least number that meets the need; inside the margin those running for fill) and the pumps
allowed (the most whose ratings fit under the cap less the freeze sum), hands fill k and FILL_SHORTFALL, and queues a PLAN notice
exactly where the state, the reason, fill k or SHORTFALL changed; nothing else changes. (That the topped mark is cleared in every state,
SUSPENDED too, log 23, and that a SUSPENDED plan takes no SHORTFALL from R102 a, log 28, are the model's inferences; that a blind run goes on under a raised limit is
its choice, log 58, and so is that FILL_SHORTFALL is handed before the call evaluation that fill k brings, log 5.) -/
def Obligations.FillTimersAndInflow : Prop :=
  (∀ s : State,
    let f := s.plant.fill
    let n := s.env.cfg.set.litresPerPulse
    let counted := fun s₁ : State => { s₁ with plant := { (({ s₁.plant with telem :=
        { s₁.plant.telem with inflow := min 65535 (s₁.plant.telem.inflow + n) } }).event s₁.env .inflowLitres n) with fill :=
          if f.windowOpen then { f with window := { f.window with inflow := min 4294967295 (f.window.inflow + n) } } else f } }
    (f.windowOpen = false → exec .fillMinuteTimer s = .next s) ∧
    (f.windowOpen = true → ∃ t, exec .fillMinuteTimer s = .next t ∧ SameOutside s t ∧
      t.plant.fill.window = { f.window with minutes := min 10080 (f.window.minutes + 1) } ∧
      t.plant.fill.windowOpen = true ∧ t.plant.fill.minuteSecs = 0 ∧ t.plant.fill.draw = f.draw ∧
      ((∃ p, (s.plant.pumps.recs.get p).state = .running ∧ (s.plant.pumps.recs.get p).served.fill = true) →
        f.plan.state = .blindFill → t.plant.fill.blind = min 240 (f.blind + 1)) ∧
      (f.plan.state ≠ .blindFill ∨ (∀ p, (s.plant.pumps.recs.get p).state ≠ .running ∨ (s.plant.pumps.recs.get p).served.fill = false) →
        t.plant.fill.blind = f.blind)) ∧
    (s.env.sys.mode ≠ .commission → exec .inflowPulse s = .next (counted s) ∧ exec .simulatedInflowPulse s = .next s) ∧
    (s.env.sys.mode = .commission → exec .inflowPulse s = .next s) ∧
    (s.env.sys.mode = .commission → s.env.sys.sim.inflowRate ≠ 0 → exec .simulatedInflowPulse s =
      .next (counted { s with env := { s.env with sys := { s.env.sys with sim :=
        { s.env.sys.sim with total60 := s.env.sys.sim.total60 - 60 * n } } } })) ∧
    (s.env.level.low.reported = .dry → exec .lowWetTimerExpiry s = .next s) ∧
    (s.env.level.low.reported = .wet → s.env.level.published = false ∨ s.env.level.quality = .invalid →
      ∃ t, exec .lowWetTimerExpiry s = .next t ∧ SameOutside s t ∧ t.plant.pumps.reserve = false ∧
        t.plant.fill.lowWet = max 10 f.lowWet) ∧
    (s.env.cfg.set.source = .line → s.env.clock.lineDebounce.isSome = true → s.env.clock.line = .opened →
      s.env.clock.tariff ≠ .cheap →
      let v := if s.env.level.quality = .good then s.env.cfg.geometry.map (fun bs => volumeOf bs s.env.level.filtered) else none
      ∃ t, exec .tariffDebounceExpiry s = .next t ∧ (t.plant.cut = false →
        t.plant.fill.windowOpen = true ∧ t.plant.pumps.windowOpen = true ∧ t.plant.fill.minuteSecs = 0 ∧ t.plant.fill.blind = 0 ∧
        t.plant.fill.window = ⟨v, 0, 0, decide (v ≠ none ∧ s.env.sys.mode = .run)⟩ ∧ t.plant.fill.draw = f.draw)) ∧
    (s.env.cfg.set.source = .line → s.env.clock.lineDebounce.isSome = true → s.env.clock.line = .closed →
      s.env.clock.tariff = .cheap → s.plant.alarms.table.length = 24 →
      let m := if 60 ≤ f.minuteSecs then min 10080 (f.window.minutes + 1) else f.window.minutes
      let learnt := f.window.usable = true ∧ s.env.level.quality = .good ∧ 1 ≤ m
      let meter := fun t : State => (t.plant.alarms.get .meter).state.present
      let ends := 60 ≤ f.minuteSecs ∧ f.plan.state = .blindFill ∧
        ∃ p, (s.plant.pumps.recs.get p).state = .running ∧ (s.plant.pumps.recs.get p).served.fill = true
      ∃ t, exec .tariffDebounceExpiry s = .next t ∧ t.plant.fill.windowOpen = false ∧ t.plant.fill.minuteSecs = 0 ∧
        t.plant.fill.window = { f.window with minutes := m } ∧ t.plant.fill.plan.topped = false ∧
        (ends → t.plant.fill.blind = min 240 (f.blind + 1)) ∧ (¬ ends → t.plant.fill.blind = f.blind) ∧
        (t.plant.cut = false → t.plant.pumps.windowOpen = false) ∧
        (∀ bs v, s.env.cfg.geometry = some bs → f.window.startVolume = some v → learnt →
          let rise := (volumeOf bs s.env.level.filtered : Int) - v
          let obs := Int.tdiv ((f.window.inflow : Int) - rise) m
          t.plant.fill.draw = (7 * f.draw + (max 0 (min 65535 obs)).toNat + 4) / 8 ∧
          (meter t = true ↔ 0 < rise ∧ 100 * (f.window.inflow : Int) < 95 * rise)) ∧
        (¬ learnt ∨ s.env.cfg.geometry = none ∨ f.window.startVolume = none →
          t.plant.fill.draw = f.draw ∧ meter t = meter s))) ∧
  ∀ (e : Env) (P : Plant),
    let c := e.cfg.set
    let lv := e.level
    let l := if lv.quality = .good then lv.filtered else lv.held
    let old := P.fill.plan
    let p := (handle .planEval e P).1.fill.plan
    let k := (handle .planEval e P).1.pumps.fillK
    let keeps := old.topped = true ∧ ¬ (lv.published = true ∧ lv.quality ≠ .invalid ∧ l + c.refillBand < c.fillTarget)
    let shut := P.guard.core.state = .shut ∨ P.guard.core.state = .trip
    let faulted := P.valves.inlet.state = .fault ∨ P.valves.inlet.fromFault = true
    let runs := lv.published = true ∧ e.sys.mode = .run ∧ ¬ shut
    let asks := runs ∧ e.clock.tariff = .cheap ∧ P.pumps.duty ≠ []
    let blindK := if P.fill.blind < c.blindLimit ∧ 1 ≤ p.kMax then 1 else 0
    (lv.published = false → p.state = .idle ∧ p.reason = none ∧ k = 0) ∧
    (lv.published = true → e.sys.mode ≠ .run → p.state = .suspended ∧ p.reason = some .mode ∧ k = 0) ∧
    (lv.published = true → e.sys.mode = .run → shut → p.state = .suspended ∧ p.reason = some .guard ∧ k = 0) ∧
    (runs → e.clock.tariff ≠ .cheap → p.state = .suspended ∧ p.reason = some .tariff ∧ k = 0) ∧
    (runs → e.clock.tariff = .cheap → P.pumps.duty = [] → p.state = .suspended ∧ p.reason = some .noPump ∧ k = 0) ∧
    (asks → faulted → p.state = .suspended ∧ p.reason = some .valve ∧ (lv.quality = .invalid → k = blindK) ∧
      (lv.quality ≠ .invalid → c.fillTarget ≤ l ∨ keeps → k = 0) ∧
      (lv.quality ≠ .invalid → l < c.fillTarget → ¬ keeps → k = min p.kNeed p.kMax)) ∧
    (asks → ¬ faulted → lv.quality = .invalid → p.state = .blindFill ∧ p.reason = none ∧ k = blindK) ∧
    (asks → ¬ faulted → lv.quality ≠ .invalid → c.fillTarget ≤ l ∨ keeps → p.state = .topped ∧ p.reason = none ∧ k = 0) ∧
    (asks → ¬ faulted → lv.quality ≠ .invalid → l < c.fillTarget → ¬ keeps →
      p.state = .filling ∧ p.reason = none ∧ k = min p.kNeed p.kMax) ∧
    (p.topped = true ↔ keeps ∨ (p.state = .topped ∧ c.fillTarget ≤ l)) ∧
    (lv.published = false ∨ e.cfg.geometry = none → p.available = 0 ∧ p.need = 0 ∧ p.kNeed = 0 ∧ p.kMax = 0) ∧
    (∀ bs, lv.published = true → e.cfg.geometry = some bs →
      let avail := min 1440 (tRem e.cfg e.clock - c.margin)
      let delivers := fun n => ((P.pumps.duty.take n).map c.delivery.get).sum
      let draws := fun n => ((P.pumps.duty.take n).map c.pumpRating.get).sum +
        ((allZones.filter fun z => (P.load.zones.get z).cls? = some .freeze).map c.zoneRating.get).sum
      let all := P.pumps.duty.length
      p.levelUsed = l ∧ p.available = avail ∧
      p.need = (if l < c.fillTarget then volumeOf bs c.fillTarget - volumeOf bs l + P.fill.draw * avail else 0) ∧
      (avail = 0 → p.kNeed = (allPumps.filter fun q => ((P.pumps.recs.get q).state = .starting ∨
        (P.pumps.recs.get q).state = .running) ∧ (P.pumps.recs.get q).served.fill = true).length) ∧
      (0 < avail → p.kNeed ≤ all ∧ (∀ n, n < p.kNeed → delivers n * avail < p.need) ∧
        (p.need ≤ delivers p.kNeed * avail ∨ p.kNeed = all)) ∧
      p.kMax ≤ all ∧ (∀ n, n ≤ all → draws n ≤ P.load.cap → n ≤ p.kMax) ∧ (p.kMax = 0 ∨ draws p.kMax ≤ P.load.cap) ∧
      (p.shortfall = true ↔ p.kMax < p.kNeed ∨ (0 < avail ∧ ∀ n, n ≤ all → delivers n * avail < p.need) ∨
        (p.state = .blindFill ∧ P.fill.blind < c.blindLimit ∧ p.kMax = 0)) ∧
      (p.state = .filling → 0 < k → 0 < delivers k → ∃ m, p.need ≤ m * delivers k ∧
        (∀ n, p.need ≤ n * delivers k → m ≤ n) ∧
        p.finish = some ⟨m, if e.clock.isSet then some ((e.clock.minute + m) % 10080) else none⟩)) ∧
    (p.state ≠ .filling ∨ k = 0 → p.finish = none) ∧
    handle .planEval e P = ({ P with fill := { P.fill with plan := p }, pumps := { P.pumps with fillK := k } },
      [Sig.cond .fillShortfall (decide (p.state = .filling ∧ p.shortfall = true))] ++
        (if k = P.pumps.fillK then [] else [Sig.callEval]) ++
        (if p.state = old.state ∧ p.reason = old.reason ∧ k = P.pumps.fillK ∧ p.shortfall = old.shortfall then []
          else [Sig.planNotice none]))

/-- R109, R111: BOOST in RUN, with a usable level and the guard in neither SHUT nor TRIP, clamps its level to L_high − 100 and its
number to 1..pumps fitted, and sets the boost and boost k, unless the level is reached already; otherwise STATE. CANCEL BOOST ends
a boost with CANCELLED and boost k = 0, in every mode, and its reply says whether there was one. (The trip latch and the high-high
mark are clear, so nothing the boost starts can end it.) R110: a sample whose publication is GOOD at or above the boost level ends
the boost with REACHED, before the guard acts on that level, and one that is INVALID with INVALID, boost k becoming 0; any other sample
leaves the boost in force, but where its publication brings the guard into SHUT or TRIP, which ends it with GUARD. -/
def Obligations.BoostRequests : Prop :=
  (∀ (raw : BitVec 12) (b : Boost) (s : State), s.plant.fill.boost = some b →
    ∃ t, exec (.transducerSample raw) s = .next t ∧
      (let v := t.env.level
       let f := t.plant.fill
       let ended := fun x : BoostEnd => f.boost = none ∧ f.boostEnd = some x ∧ t.plant.pumps.boostK = 0
       let reached := v.published = true ∧ v.quality = .good ∧ b.level ≤ v.filtered
       let invalid := v.published = true ∧ v.quality = .invalid
       (reached → ended .reached) ∧ (invalid → ended .invalid) ∧
       (¬ reached → ¬ invalid → (f.boost = some b ∧ f.boostEnd = s.plant.fill.boostEnd) ∨
         (ended .guard ∧ v.published = true ∧ (t.plant.guard.core.state = .shut ∨ t.plant.guard.core.state = .trip))))) ∧
  ∀ (tag : Byte) (l k : Nat) (s : State), tag ≠ 0 → l < 65536 → k < 256 → s.clearToAnswer = true →
    let body := u16 l ++ u8 k ++ [0]
    let shown := if s.env.level.quality = .good then s.env.level.filtered else s.env.level.held
    let l' := min (s.env.cfg.set.lHigh - 100) l
    let k' := if k < 1 then 1 else min s.env.cfg.set.pumpsFitted k
    let admitted := s.env.sys.mode = .run ∧ s.env.level.published = true ∧ s.env.level.quality ≠ .invalid ∧
      s.plant.guard.core.state ≠ .shut ∧ s.plant.guard.core.state ≠ .trip ∧ shown < l'
    (admitted → s.plant.guard.core.latch = false → s.plant.guard.core.highHigh = false →
      ∃ t, exec (.boost tag body) s = .next t ∧ t.env = s.env ∧ t.pending = s.pending ∧
        t.plant.fill.boost = some ⟨l', k'⟩ ∧ t.plant.pumps.boostK = k' ∧
        t.link = repliedLink s (if l' = l ∧ k' = k then replyTo s 0x23 tag .ok [] .nothing
          else replyTo s 0x23 tag .clamped (u16 l' ++ u8 k') .nothing)) ∧
    (¬ admitted → exec (.boost tag body) s =
      .next { s with link := repliedLink s (replyTo s 0x23 tag .state [] .nothing) }) ∧
    (s.plant.fill.boost = none → exec (.cancelBoost tag []) s =
      .next { s with link := repliedLink s (replyTo s 0x24 tag .ok [0] .nothing) }) ∧
    (s.plant.fill.boost.isSome = true →
      ∃ t, exec (.cancelBoost tag []) s = .next t ∧ t.env = s.env ∧ t.pending = s.pending ∧
        t.plant.fill.boost = none ∧ t.plant.fill.boostEnd = some .cancelled ∧ t.plant.pumps.boostK = 0 ∧
        t.link = repliedLink s (replyTo s 0x24 tag .ok [1] .nothing)) ∧
    ∀ b, b ≠ [] → exec (.cancelBoost tag b) s =
      .next { s with link := repliedLink s (replyTo s 0x24 tag .form [] .nothing) }

/-! ### Overflow guard (Part 7) -/

/-- R125, R126, R118, R122: a wetting of the OVER float with the latch clear sets the latch and brings TRIP for OVER at once, the
guard limit ZERO, the inlet held and the dump at P_dump; with the latch set in TRIP it asks for the dump at P_dump again and stops
the run-on timer. R81, R84: an operation of the station computer in flight on a valve that the guard takes, the dump or (from outside
SHUT) the inlet, ends with DONE PREEMPTED, which bears the valve's state and position, and the guard owns the valve (in an event whose
chain was not cut short, log 4). -/
def Obligations.OverWetTrips : Prop :=
  ∀ s : State, s.env.level.overFloat.reported = .dry → s.env.level.overFloat.debounce.isSome = true →
    let g := s.plant.guard.core
    (g.latch = false → g.state ≠ .trip → ∃ t, exec (.floatDebounceExpiry .overFloat) s = .next t ∧
      t.env = { s.env with level := { s.env.level with overFloat := ⟨.wet, none⟩ } } ∧ t.link = s.link ∧ t.pending = s.pending ∧
      (let h := t.plant.guard.core
       h.latch = true ∧ h.state = .trip ∧ h.reason = .overFloat ∧ t.plant.pumps.limit = .zero ∧
       h.dumpHold = some s.env.cfg.set.pDump ∧ h.runOn = ⟨false, 0⟩ ∧
       h.inletHold = if g.state = .shut then g.inletHold else some 0) ∧
      (t.plant.cut = false → ∀ v, v = .dump ∨ g.state ≠ .shut →
        let r := s.plant.valves.get v
        (t.plant.valves.get v).owner = .guard ∧ (t.plant.valves.get v).op = none ∧
        ∀ o, r.op = some o → (⟨.done, o.tag, [3, o.kind, if v = .inlet then 0 else 1] ++ u8 r.state.code ++ u16? r.position ++
          [0, 0]⟩ : Notice) ∈ t.plant.telem.queue)) ∧
    (g.latch = true → g.state = .trip → g.reason = .overFloat → ∃ t, exec (.floatDebounceExpiry .overFloat) s = .next t ∧
      t.env = { s.env with level := { s.env.level with overFloat := ⟨.wet, none⟩ } } ∧ t.link = s.link ∧ t.pending = s.pending ∧
      (let h := t.plant.guard.core
       h.latch = true ∧ h.state = .trip ∧ h.reason = .overFloat ∧ h.dumpHold = some s.env.cfg.set.pDump ∧
       h.runOn = ⟨false, 0⟩ ∧ h.inletHold = g.inletHold))

/-- R120, R126 d, R129: the release timer's expiry clears the high-high mark and the guard evaluates; the run-on timer's expiry
asks for the dump at 0, which sets out for it; the auto-clear timer's expiry clears the latch and the guard leaves TRIP. A timer
that does not run brings nothing. (That an expiry leaves the run-on timer at its 120 s is the model's choice, log 2.) R118 to R121: a
sample that makes a publication sets the high mark at L_high or above while the level is usable and clears it at INVALID, or at GOOD
below L_high less the hysteresis; sets the high-high mark at L_hh or above, with GUARD_SHUTS where it was clear and the latch too;
starts the release timer, or stops it at 0; sets the fast mark by T_ovf while a pump is RUNNING; holds HIGH and HIGH_HIGH as the marks
stand; and leaves the guard where the table of R118 puts it. A sample without a publication leaves the guard as it was. -/
def Obligations.GuardTimers : Prop :=
  (∀ (raw : BitVec 12) (s : State), s.plant.alarms.table.length = 24 →
    let g := s.plant.guard.core
    let c := s.env.cfg.set
    ∃ t, exec (.transducerSample raw) s = .next t ∧
      (let h := t.plant.guard.core
       let v := t.env.level
       let l := if v.quality = .good then v.filtered else v.held
       let published := s.env.level.published = true ∨ v.published = true
       let setHigh := v.quality ≠ .invalid ∧ c.lHigh ≤ l
       let clearHigh := v.quality = .invalid ∨ (v.quality = .good ∧ l + c.hysteresis < c.lHigh)
       let setHh := v.quality ≠ .invalid ∧ c.lHh ≤ l
       let releases := h.highHigh = true ∧ v.quality = .good ∧ l + c.hysteresis < c.lHh
       (¬ published → t.plant.guard = s.plant.guard) ∧
       (published →
         (h.high = true ↔ setHigh ∨ (g.high = true ∧ ¬ clearHigh)) ∧ (h.highHigh = true ↔ setHh ∨ g.highHigh = true) ∧
         (releases → h.release = if g.release.running then g.release else ⟨true, 0⟩) ∧ (¬ releases → h.release = ⟨false, 0⟩) ∧
         h.latch = g.latch ∧ ((t.plant.alarms.get .high).state.present = true ↔ h.high = true) ∧
         ((t.plant.alarms.get .highHigh).state.present = true ↔ h.highHigh = true) ∧
         (∀ i, (s.env.cfg.programs.get i).event = .guardShuts → (s.env.cfg.programs.get i).startAfter = none →
           (t.plant.telem.counters.get i).count = if setHh ∧ g.highHigh = false ∧ g.latch = false
             then ((s.plant.telem.event s.env .guardShuts 1).counters.get i).count else (s.plant.telem.counters.get i).count) ∧
         (t.plant.cut = false → guardSettled t.env t.plant ∧
           (h.fast = true ↔ v.rate ≠ none ∧ v.tOvf < c.tWarn ∧ ∃ p, (t.plant.pumps.recs.get p).state = .running))))) ∧
  ∀ s : State,
    let g := s.plant.guard.core
    let d := s.plant.valves.dump
    (g.release.running = false → exec .releaseTimerExpiry s = .next s) ∧
    (g.release.running = true → ∃ t, exec .releaseTimerExpiry s = .next t ∧ SameOutside s t ∧
      t.plant.guard.core.highHigh = false ∧ t.plant.guard.core.release = ⟨false, 0⟩ ∧
      t.plant.guard.core.latch = g.latch ∧
      (g.latch = false → s.env.level.published = true → s.env.level.quality ≠ .invalid → g.high = true →
        t.plant.guard.core.state = .watch ∧ t.plant.guard.core.reason = .high)) ∧
    (g.runOn.running = false → exec .runOnTimerExpiry s = .next s) ∧
    (∀ x, g.runOn.running = true → d.state = .idle → d.position = some x → x ≠ 0 → d.owner = .guard → d.op = none →
      d.fromFault = false → exec .runOnTimerExpiry s = .next { s with plant := { s.plant with
        guard := { s.plant.guard with core := { g with runOn := ⟨false, 120⟩, dumpHold := some 0 } }
        valves := { s.plant.valves with dump :=
          { d with state := .moving, target := some 0, unread := true, phase := none, seat := none, stuck := none } } } }) ∧
    (g.autoClear.running = false → exec .autoClearTimerExpiry s = .next s) ∧
    (g.autoClear.running = true → ∃ t, exec .autoClearTimerExpiry s = .next t ∧ SameOutside s t ∧
      t.plant.guard.core.latch = false ∧ t.plant.guard.core.autoClear = ⟨false, 0⟩ ∧ t.plant.guard.core.state ≠ .trip)

/-- R128: CLEAR TRIP clears a set latch while the OVER float is DRY and a usable level stands below L_high less the hysteresis; the
guard leaves TRIP, and the reply is OK with the state it stands in. With the latch clear, the float WET or the level too high it is
refused with STATE; a body that is not empty is refused with FORM. -/
def Obligations.ClearTrip : Prop :=
  ∀ (tag : Byte) (s : State), tag ≠ 0 → s.clearToAnswer = true →
    let lv := s.env.level
    let shown := if lv.quality = .good then lv.filtered else lv.held
    let may := s.plant.guard.core.latch = true ∧ lv.overFloat.reported = .dry ∧
      (lv.published = true → lv.quality ≠ .invalid → shown + s.env.cfg.set.hysteresis < s.env.cfg.set.lHigh)
    (may → ∃ t, exec (.clearTrip tag []) s = .next t ∧ t.env = s.env ∧ t.pending = s.pending ∧
      t.plant.guard.core.latch = false ∧ t.plant.guard.core.autoClear = ⟨false, 0⟩ ∧ t.plant.guard.core.state ≠ .trip ∧
      (lv.published = false → t.plant.guard.core.state = .shut ∧ t.plant.guard.core.reason = .restart) ∧
      t.link = repliedLink s (replyTo s 0x2D tag .ok [match t.plant.guard.core.state with
        | .normal => 0 | .watch => 1 | .shut => 2 | .trip => 3 | .blind => 4] .nothing)) ∧
    (¬ may → exec (.clearTrip tag []) s =
      .next { s with link := repliedLink s (replyTo s 0x2D tag .state [] .nothing) }) ∧
    ∀ b, b ≠ [] → exec (.clearTrip tag b) s =
      .next { s with link := repliedLink s (replyTo s 0x2D tag .form [] .nothing) }

/-! ### Frost unit (Part 8) -/

/-- R133, R134: one read of the bus. A good read takes its temperature, ends the bad run and raises the good run; a bad one ends the
good run, raises the bad run and leaves the reading; three bad reads in a row fault a sensor, three good ones bring it back. (That Z1 is
read first is the model's choice, log 64; for the others the event's hand-overs are carried out to their end, log 4.) R148, R184: in
COMMISSION the records take the simulated temperatures, the good real reads are remembered (the air sensor's too, the model's
choice, log 79), and one of an enabled zone below its on_below returns the part to SETUP (after the simulated reads, its choice, log
65). R134, R140, R142, R145 a: the read that faults the sensor of an enabled zone raises its condition and brings FALLBACK, phase ON, freeze timer 0 (condition, FREEZE, class, duty
in this order: the model's choice, log 51); the one that ends the fault takes the condition back and gives the zone the state of its
claim; every good read judges state and class, clears the freeze timer at critical and the boost mark at off_above, and in a riser zone
makes the circulation test. R137, R138: a zone in OFF claims when it is cold or boosted and its minimum off time is served; in WANT, and
in HEAT after its minimum on time, it releases when warm and not boosted, a driven heater handing HEAT_ENERGY. R139: the class is FREEZE
while boosted or below critical, WARM otherwise. R140: the fallback duty. R134: the air sensor's condition follows its status. -/
def Obligations.SensorReads : Prop :=
  let good := fun a : Option Int => match a with | some t => if -550 ≤ t ∧ t ≤ 1250 then some t else none | none => none
  let after := fun (x : Sensor) (a : Option Int) => match good a with
    | some t => (⟨some t, x.faulted && min 3 (x.goodRun + 1) != 3, 0, min 3 (x.goodRun + 1)⟩ : Sensor)
    | none => ⟨x.reading, x.faulted || min 3 (x.badRun + 1) == 3, min 3 (x.badRun + 1), 0⟩
  let reads := fun (s t : State) (b : Bus) =>
    t.plant.frost.sensors.z1 = after s.plant.frost.sensors.z1 b.z1 ∧
    (t.plant.cut = false →
      t.plant.frost.sensors.z2 = after s.plant.frost.sensors.z2 b.z2 ∧
      t.plant.frost.sensors.z3 = after s.plant.frost.sensors.z3 b.z3 ∧
      t.plant.frost.sensors.z4 = after s.plant.frost.sensors.z4 b.z4 ∧
      t.plant.frost.air = after s.plant.frost.air b.air)
  (∀ (z1 z2 z3 z4 air : Option Int) (s : State),
    let b : Bus := ⟨z1, z2, z3, z4, air⟩
    let o := s.plant.frost.realGood
    let cold := ∃ z x, (s.env.cfg.set.zone.get z).enabled = true ∧ good (b.zone z) = some x ∧ x < (s.env.cfg.set.zone.get z).onBelow
    ∃ t, exec (.sensorRead z1 z2 z3 z4 air) s = .next t ∧ t.link = s.link ∧ t.pending = s.pending ∧
      t.env.pins = { s.env.pins with bus := b } ∧ t.env.cfg = s.env.cfg ∧
      (s.env.sys.mode ≠ .commission → t.env = { s.env with pins := { s.env.pins with bus := b } } ∧ reads s t b) ∧
      (s.env.sys.mode = .commission → ¬ cold → t.env = { s.env with pins := { s.env.pins with bus := b } } ∧
        reads s t s.env.sys.sim.temps ∧ t.plant.frost.realGood =
          ⟨(good z1).or o.z1, (good z2).or o.z2, (good z3).or o.z3, (good z4).or o.z4, (good air).or o.air⟩) ∧
      (s.env.sys.mode = .commission → cold → t.env.sys.mode = .setup ∧
        ∀ z, t.plant.frost.sensors.get z = ⟨(good (b.zone z)).or (o.zone z), false, 0, 0⟩)) ∧
  (∀ (z : Zone) (a : Option Int) (e : Env) (P : Plant),
    let r := P.frost.zones.get z
    let x := P.frost.sensors.get z
    let c := e.cfg.set.zone.get z
    let y := handle (.zoneRead z a) e P
    let left := fun q : ZoneRec => { P with frost := { P.frost with
      sensors := P.frost.sensors.set z (after x a), zones := P.frost.zones.set z q } }
    let back := c.enabled = true ∧ x.faulted = true ∧ 2 ≤ x.goodRun
    (good a = none → c.enabled = true → x.faulted = false → 2 ≤ x.badRun → y = (left { r with
      state := .fallback, fallback := some ⟨true, 0, 0⟩, freeze := 0, freezeSecs := 0 },
        [.cond (zoneSensor z) true, .freezeAlarm, .zoneClass z, .zoneDuty z])) ∧
    (good a = none → c.enabled = false ∨ x.faulted = true ∨ x.badRun < 2 → y = (left r, [])) ∧
    (∀ t, good a = some t →
      let r' : ZoneRec := { r with
        freeze := if c.critical ≤ t then 0 else r.freeze, freezeSecs := if c.critical ≤ t then 0 else r.freezeSecs
        boost := if c.offAbove ≤ t ∧ (after x a).faulted = false then false else r.boost }
      .zoneJudge z ∈ y.2 ∧ .zoneClass z ∈ y.2 ∧ .zoneDuty z ∈ y.2 ∧ (.circTest ∈ y.2 ↔ z = .z1 ∨ z = .z2) ∧
      (.cond (zoneSensor z) false ∈ y.2 ↔ back) ∧ (¬ back → y.1 = left r') ∧
      (back → y.1 = left (match P.load.zones.get z with
        | .granted _ _ _ => { r' with state := .heat, fallback := none, freeze := 0, freezeSecs := 0 }
        | .waiting _ _ => { r' with state := .want, fallback := none }
        | .idle => { r' with state := .off, fallback := none })))) ∧
  (∀ (a : Option Int) (e : Env) (P : Plant),
    let x := P.frost.air
    let y := handle (.airRead a) e P
    y.1 = { P with frost := { P.frost with air := after x a } } ∧
    (∀ b, .cond .airSensor b ∈ y.2 ↔ (after x a).faulted = b ∧ x.faulted ≠ b) ∧
    ∀ z, .zoneDuty z ∈ y.2 ↔ good a ≠ none ∨ (after x a).faulted ≠ x.faulted) ∧
  ∀ (z : Zone) (e : Env) (P : Plant),
    let r := P.frost.zones.get z
    let x := P.frost.sensors.get z
    let c := e.cfg.set.zone.get z
    let k := P.load.zones.get z
    let becomes := fun q : ZoneRec => { P with frost := { P.frost with zones := P.frost.zones.set z q } }
    let energy := fun Q : Plant => if e.sys.mode = .commission then Q
      else Q.event e .heatEnergy (e.cfg.set.zoneRating.get z * r.onSecs)
    let turnsOff := fun st => ({ energy P with frost := { P.frost with zones :=
      (P.frost.zones.set z { r with state := st, timer := 0, onSecs := 0 }) } } : Plant)
    let cls := if r.boost then LoadClass.freeze else match x.faulted, x.reading with
      | false, some t => if t < c.critical then .freeze else .warm
      | _, _ => .warm
    let duty := if r.boost then some LoadClass.freeze else if P.frost.air.faulted then some .warm
      else match P.frost.air.reading, r.fallback with
        | none, _ => some .warm
        | some t, some f => if t < 30 ∧ f.on = true then some .warm else none
        | some _, none => none
    (x.faulted = true ∨ x.reading = none → handle (.zoneJudge z) e P = (P, [])) ∧
    (∀ t, x.faulted = false → x.reading = some t →
      let warm := c.offAbove ≤ t ∧ r.boost = false
      let calls := t < c.onBelow ∨ r.boost = true
      (r.state = .off → calls → 60 ≤ r.timer →
        handle (.zoneJudge z) e P = (becomes { r with state := .want }, [.claim (.zone z) cls])) ∧
      (r.state = .want → warm → k.isGranted = false →
        handle (.zoneJudge z) e P = (becomes { r with state := .off }, [.release (.zone z)])) ∧
      (r.state = .heat → warm → 120 ≤ r.timer → k.isGranted = true →
        handle (.zoneJudge z) e P = (turnsOff .off, [.release (.zone z)])) ∧
      ((r.state = .off ∧ (¬ calls ∨ r.timer < 60)) ∨ (r.state = .want ∧ ¬ warm) ∨ (r.state = .heat ∧ (¬ warm ∨ r.timer < 120)) ∨
          r.state = .fallback ∨ r.state = .disabled → handle (.zoneJudge z) e P = (P, []))) ∧
    handle (.zoneClass z) e P =
      (P, match k.cls? with | some q => if q = cls then [] else [.classChange (.zone z) cls] | none => []) ∧
    (r.state ≠ .fallback → handle (.zoneDuty z) e P = (P, [])) ∧
    (∀ d, r.state = .fallback → duty = some d → handle (.zoneDuty z) e P =
      (P, match k.cls? with | none => [.claim (.zone z) d] | some q => if d = q then [] else [.classChange (.zone z) d])) ∧
    (r.state = .fallback → duty = none → (k = .idle → handle (.zoneDuty z) e P = (P, [])) ∧
      (k.isGranted = true → handle (.zoneDuty z) e P = (turnsOff .fallback, [.release (.zone z)])) ∧
      (∀ q n, k = .waiting q n → handle (.zoneDuty z) e P = (P, [.release (.zone z)])))

/-- R137, R138, R140, R142: with nothing waiting for power, a WARM zone in HEAT that is warm enough stops as its minimum on time
ends, its claim released and HEAT_ENERGY handed; a cold zone in OFF claims as its minimum off time ends and, with room under the
cap, heats at once. A fallback phase changes to the other; the freeze timer counts to 10, where FREEZE appears. -/
def Obligations.ZoneTimers : Prop :=
  ∀ (z : Zone) (s : State),
    let r := s.plant.frost.zones.get z
    let x := s.plant.frost.sensors.get z
    let c := s.env.cfg.set.zone.get z
    let tb := s.plant.load
    let counts := c.enabled = true ∧ x.faulted = false ∧ (∃ t, x.reading = some t ∧ t < c.critical) ∧ r.state ≠ .heat
    (∀ t n g, r.state = .heat → r.boost = false → x.faulted = false → x.reading = some t → c.offAbove ≤ t →
      tb.zones.get z = .granted .warm n g → (∀ l k m, tb.claim l ≠ .waiting k m) →
      exec (.heaterTimerExpiry z) s = .next { s with plant := { (if s.env.sys.mode = .commission then s.plant
          else s.plant.event s.env .heatEnergy (s.env.cfg.set.zoneRating.get z * r.onSecs)) with
        frost := { s.plant.frost with zones := s.plant.frost.zones.set z { r with state := .off, timer := 0, onSecs := 0 } }
        load := { tb with zones := tb.zones.set z .idle } } }) ∧
    (∀ t, r.state = .off → r.boost = false → x.faulted = false → x.reading = some t → t < c.onBelow → c.critical ≤ t →
      tb.zones.get z = .idle → (∀ l k m, tb.claim l ≠ .waiting k m) → tb.claimCounter < 4294967295 →
      tb.grantCounter < 4294967295 → grantedSum s.env.cfg.set tb + s.env.cfg.set.zoneRating.get z ≤ tb.cap →
      (∀ y, y ≠ z → (s.plant.frost.zones.get y).freeze ≠ 10) → (s.plant.alarms.get .freeze).state.present = false →
      exec (.heaterTimerExpiry z) s = .next { s with plant := { s.plant with
        frost := { s.plant.frost with zones := (s.plant.frost.zones.set z
          { r with state := .heat, timer := 0, onSecs := 0, freeze := 0, freezeSecs := 0 }) }
        load := { tb with zones := tb.zones.set z (.granted .warm tb.claimCounter tb.grantCounter),
                          claimCounter := tb.claimCounter + 1, grantCounter := tb.grantCounter + 1 } } }) ∧
    (r.state ≠ .off → r.state ≠ .heat → exec (.heaterTimerExpiry z) s = .next s) ∧
    (∀ f, r.state = .fallback → r.fallback = some f → ∃ t, exec (.fallbackPhaseChange z) s = .next t ∧ SameOutside s t ∧
      (t.plant.frost.zones.get z).fallback = some ⟨!f.on, 0, 0⟩ ∧ (t.plant.frost.zones.get z).state = .fallback) ∧
    (r.state ≠ .fallback → exec (.fallbackPhaseChange z) s = .next s) ∧
    (¬ counts → exec (.freezeTimerMinute z) s = .next s) ∧
    (counts → s.plant.alarms.table.length = 24 → ∃ t, exec (.freezeTimerMinute z) s = .next t ∧ SameOutside s t ∧
      t.plant.frost = { s.plant.frost with zones :=
        (s.plant.frost.zones.set z { r with freeze := min 10 (r.freeze + 1), freezeSecs := 0 }) } ∧
      t.plant.load = s.plant.load ∧ t.plant.pumps = s.plant.pumps ∧ t.plant.valves = s.plant.valves ∧
      ((t.plant.alarms.get .freeze).state.present = true ↔ ∃ y, (t.plant.frost.zones.get y).freeze = 10))

/-- R145, R146: the completion of a circulation run leaves the record QUIET, the demand 0 and the boost marks of Z1 and Z2 clear, and
hands CIRC_RUNS to the counters that count it; ten minutes of waiting in DEMANDED end in REFUSED for WAIT; the retry test leaves REFUSED
for QUIET where circulation is no longer wanted, for DEMANDED where the allowance test passes, and REFUSED with the new refusal, the
first test of a to e that fails, where it is refused again. Out of its state an expiry brings nothing. R144, R145: the circulation test
while QUIET demands circulation where it is wanted and allowed; the first test of a to e that fails refuses it, and puts each enabled
riser zone not known to be warm into frost boost, its state, class and, in FALLBACK, duty judged at once. (That the demand 0 is the
first hand-over of a refusal is the model's choice, log 51, and so is that the wait, run and retry timers are 0 outside their states,
log 71.) -/
def Obligations.CircTimers : Prop :=
  (∀ s : State,
    let k := s.plant.frost.circ
    let cold := fun z => (s.env.cfg.set.zone.get z).enabled = true ∧ (s.plant.frost.sensors.get z).faulted = false ∧
      ∃ t, (s.plant.frost.sensors.get z).reading = some t ∧ t < s.env.cfg.set.circBelow
    let wanted := (cold .z1 ∨ cold .z2) ∧ s.env.cfg.set.stagnationLimit ≤ s.plant.pumps.stagnation
    (k.state = .run → ∃ t, exec .circRunCompletion s = .next t ∧ SameOutside s t ∧ t.plant.frost.circ.state = .quiet ∧
      t.plant.pumps.circ = false ∧ t.plant.frost.zones.z1.boost = false ∧ t.plant.frost.zones.z2.boost = false ∧
      ∀ i, (s.env.cfg.programs.get i).event = .circRuns →
        (t.plant.telem.counters.get i).count = ((s.plant.telem.event s.env .circRuns 1).counters.get i).count) ∧
    (k.state ≠ .run → exec .circRunCompletion s = .next s) ∧
    (k.state = .demanded → ∃ t, exec .circWaitTimerExpiry s = .next t ∧ SameOutside s t ∧
      t.plant.frost.circ = ⟨.refused, 0, 0, 0, some .wait⟩ ∧ t.plant.pumps.circ = false) ∧
    (k.state ≠ .demanded → exec .circWaitTimerExpiry s = .next s) ∧
    (k.state ≠ .refused → exec .circRetryTimerExpiry s = .next s) ∧
    (k.state = .refused → ¬ wanted → exec .circRetryTimerExpiry s = .next { s with plant := { s.plant with frost :=
      { s.plant.frost with circ := { k with state := .quiet, retry := 0 } } } }) ∧
    (∀ why, k.state = .refused → wanted →
      (let level := s.env.level.published = true ∧ s.env.level.quality = .good
       let room := level ∧ s.env.level.filtered + s.env.cfg.set.circHeadroom ≤ s.env.cfg.set.lHigh
       let guard := room ∧ s.plant.guard.core.state = .normal
       let pump := guard ∧ s.plant.pumps.duty ≠ []
       match why with
       | Refused.level => ¬ level | .headroom => level ∧ ¬ room | .guard => room ∧ ¬ guard | .noPump => guard ∧ ¬ pump
       | .mode => pump ∧ s.env.sys.mode = .setup | .wait => False | .guardEnd => False) →
      ∃ t, exec .circRetryTimerExpiry s = .next t ∧ SameOutside s t ∧
        t.plant.frost.circ = ⟨.refused, 0, 0, 0, some why⟩ ∧ t.plant.pumps.circ = false) ∧
    (k.state = .refused → wanted → s.env.level.published = true → s.env.level.quality = .good →
      s.env.level.filtered + s.env.cfg.set.circHeadroom ≤ s.env.cfg.set.lHigh → s.plant.guard.core.state = .normal →
      s.plant.pumps.duty ≠ [] → s.env.sys.mode ≠ .setup → guardSettled s.env s.plant →
      ∃ t, exec .circRetryTimerExpiry s = .next t ∧ SameOutside s t ∧
        t.plant.frost.circ = { k with state := .demanded, wait := 0, run := 0, retry := 0 } ∧ t.plant.pumps.circ = true)) ∧
  ∀ (e : Env) (P : Plant),
    let c := e.cfg.set
    let x := handle .circTest e P
    let cold := fun z => (c.zone.get z).enabled = true ∧ (P.frost.sensors.get z).faulted = false ∧
      ∃ t, (P.frost.sensors.get z).reading = some t ∧ t < c.circBelow
    let wanted := (cold .z1 ∨ cold .z2) ∧ c.stagnationLimit ≤ P.pumps.stagnation
    let level := e.level.published = true ∧ e.level.quality = .good
    let room := level ∧ e.level.filtered + c.circHeadroom ≤ c.lHigh
    let guard := room ∧ P.guard.core.state = .normal
    let pump := guard ∧ P.pumps.duty ≠ []
    let fails := fun why : Refused => match why with
      | .level => ¬ level | .headroom => level ∧ ¬ room | .guard => room ∧ ¬ guard | .noPump => guard ∧ ¬ pump
      | .mode => pump ∧ e.sys.mode = .setup | .wait => False | .guardEnd => False
    let enters := fun z => (P.frost.zones.get z).boost = false ∧ (c.zone.get z).enabled = true ∧
      ¬ ((P.frost.sensors.get z).faulted = false ∧ ∃ t, (P.frost.sensors.get z).reading = some t ∧ (c.zone.get z).offAbove ≤ t)
    (P.frost.circ.state ≠ .quiet ∨ ¬ wanted → x = (P, [])) ∧
    (P.frost.circ.state = .quiet → wanted → pump → e.sys.mode ≠ .setup →
      x = ({ P with frost := { P.frost with circ := { P.frost.circ with state := .demanded, wait := 0, run := 0, retry := 0 } } },
        [.circDemand true])) ∧
    (∀ why, P.frost.circ.state = .quiet → wanted → fails why →
      x.1.frost.circ = ⟨.refused, 0, 0, 0, some why⟩ ∧ x.2.head? = some (.circDemand false) ∧
      (∀ z, (z = .z1 ∨ z = .z2) → enters z →
        x.1.frost.zones.get z = { P.frost.zones.get z with boost := true } ∧ .zoneJudge z ∈ x.2 ∧ .zoneClass z ∈ x.2 ∧
          .zoneDuty z ∈ x.2) ∧
      (∀ z, (z ≠ .z1 ∧ z ≠ .z2) ∨ ¬ enters z → x.1.frost.zones.get z = P.frost.zones.get z) ∧
      x.1 = { P with frost := { P.frost with circ := x.1.frost.circ, zones := x.1.frost.zones } })

/-! ### Alarm unit (Part 9) -/

/-- R151, R152: an appearance brings QUIET to ACTIVE with a new raise and LATCHED to ACTIVE without one; a going brings ACTIVE to
LATCHED and ACKED to QUIET; any other hand-over has no effect, and none hands anything on. A new raise draws the raise counter, takes
the stamp and the raise count, and hands ALARM_RAISES; no other change does, and no other record changes, but for the renumbering that a
draw at the counter's top makes first. R156, R157, R153: each change moves the change count, 65535 to 0, and queues an ALARM notice: the
count, the record's id and kind, its state before and after and its condition, the top record (of the standing ones the most urgent, and
of those the one of earliest raise sequence) or the mark that none stands, the numbers ACTIVE, LATCHED and ACKED, and the relay,
energized while a standing record has a priority at or below the threshold. (That ALARM_RAISES is counted before the notice is queued is
the model's choice, log 5; so are PRESENT 0 and ABSENT 1, log 12, and the top record's bytes, its id without its kind, 0xFF three times
where none stands, log 72.) -/
def Obligations.AlarmTransitions : Prop :=
  ∀ (k : AlarmKind) (b : Bool) (e : Env) (P : Plant), P.alarms.table.length = 24 →
    let old := P.alarms
    let r := old.get k
    let Q := (handle (.cond k b) e P).1
    let a := Q.alarms
    (handle (.cond k b) e P).2 = [] ∧
    ((b = true ∧ (r.state = .active ∨ r.state = .acked)) ∨ (b = false ∧ (r.state = .quiet ∨ r.state = .latched)) → Q = P) ∧
    ∀ new : AlarmState,
      (b = true ∧ (r.state = .quiet ∨ r.state = .latched) ∧ new = .active) ∨
        (b = false ∧ ((r.state = .active ∧ new = .latched) ∨ (r.state = .acked ∧ new = .quiet))) →
      (let stamp := if e.clock.isSet then some ⟨e.clock.minute, e.clock.second⟩ else none
       let held := old.table.filterMap (·.raiseSeq)
       a.table.length = 24 ∧ a.changes = (if old.changes < 65535 then old.changes + 1 else 0) ∧
       (r.state ≠ .quiet → a.get k = { r with state := new } ∧ a.raiseCounter = old.raiseCounter ∧
         ∀ j, j ≠ k → a.get j = old.get j) ∧
       (r.state = .quiet → old.raiseCounter < 4294967295 →
         a.get k = ⟨.active, some old.raiseCounter, some stamp, min 255 (r.raises + 1)⟩ ∧
         a.raiseCounter = old.raiseCounter + 1 ∧ ∀ j, j ≠ k → a.get j = old.get j) ∧
       (r.state = .quiet → 4294967295 ≤ old.raiseCounter →
         a.get k = ⟨.active, some (held.length + 1), some stamp, min 255 (r.raises + 1)⟩ ∧ a.raiseCounter = held.length + 2 ∧
         ∀ j, j ≠ k → a.get j = { old.get j with
           raiseSeq := (old.get j).raiseSeq.map fun n => (held.filter (· < n)).length + 1 })) ∧
      ∃ (top : List Byte) (relay : Bool),
        (let number := fun st : AlarmState => u32 (allAlarms.filter fun j => (a.get j).state = st).length
         let standing := fun j : AlarmKind => (a.get j).state = .active ∨ (a.get j).state = .latched
         let seq := fun j : AlarmKind => (a.get j).raiseSeq.getD 0
         Q = { P with
           alarms := a
           telem := (if r.state = .quiet then P.telem.event e .alarmRaises 1 else P.telem).queueNotice ⟨.alarm, 0,
             u32 a.changes ++ u8 (k.place + 1) ++ u8 k.place ++ u8 r.state.code ++ u8 new.code ++ [if b then 0 else 1] ++ top ++
               number .active ++ number .latched ++ number .acked ++ [if relay then 1 else 0]⟩ } ∧
         (relay = true ↔ ∃ j, standing j ∧ j.priority ≤ e.cfg.set.relayThreshold) ∧
         ((∀ j, ¬ standing j) → top = [0xFF, 0xFF, 0xFF]) ∧
         ∀ j, standing j → (∀ i, seq i < 4294967296) →
           (∀ i, standing i → i ≠ j → j.priority < i.priority ∨ (j.priority = i.priority ∧ seq j < seq i)) →
           top = u8 (j.place + 1) ++ u8 (a.get j).state.code ++ u8 j.priority)

/-- R154: ACK ALARM refuses a body of the wrong length, a reserved byte not zero, an id outside 1..24 and tag 0 with FORM; it brings
ACTIVE to ACKED and LATCHED to QUIET, answers OK with the new state, keeps the record's raise sequence, stamp and raise count and
every other record, and an ALARM notice waits; QUIET and ACKED are refused with STATE and the record's state. -/
def Obligations.AckAlarm : Prop :=
  (∀ (body : List Byte) (s : State), s.clearToAnswer = true → exec (.ackAlarm 0 body) s =
    .next { s with link := repliedLink s (replyTo s 0x31 0 .form [] .nothing) }) ∧
  (∀ (tag : Byte) (body : List Byte) (s : State), s.clearToAnswer = true →
    body.length ≠ 2 ∨ body.getLast? ≠ some 0 → exec (.ackAlarm tag body) s =
      .next { s with link := repliedLink s (replyTo s 0x31 tag .form [] .nothing) }) ∧
  ∀ (tag : Byte) (n : Nat) (s : State), tag ≠ 0 → n < 256 → s.clearToAnswer = true → s.plant.alarms.table.length = 24 →
    (∀ k : AlarmKind, k.place + 1 = n →
      let r := s.plant.alarms.get k
      let acked := fun (new : AlarmState) (code : Byte) =>
        ∃ t, exec (.ackAlarm tag (u8 n ++ [0])) s = .next t ∧ t.env = s.env ∧ t.pending = s.pending ∧
          t.link = repliedLink s (replyTo s 0x31 tag .ok [code] .nothing) ∧
          (∃ q, t.plant = { s.plant with alarms := t.plant.alarms, telem := { s.plant.telem with queue := q } } ∧
            (∃ m ∈ q, m.kind = .alarm)) ∧
          t.plant.alarms.get k = { r with state := new } ∧ (∀ j, j ≠ k → t.plant.alarms.get j = s.plant.alarms.get j) ∧
          t.plant.alarms.raiseCounter = s.plant.alarms.raiseCounter
      (r.state = .active → acked .acked 2) ∧
      (r.state = .latched → acked .quiet 0) ∧
      (r.state = .quiet → exec (.ackAlarm tag (u8 n ++ [0])) s =
        .next { s with link := repliedLink s (replyTo s 0x31 tag .state [0] .nothing) }) ∧
      (r.state = .acked → exec (.ackAlarm tag (u8 n ++ [0])) s =
        .next { s with link := repliedLink s (replyTo s 0x31 tag .state [2] .nothing) })) ∧
    (n = 0 ∨ 24 < n → exec (.ackAlarm tag (u8 n ++ [0])) s =
      .next { s with link := repliedLink s (replyTo s 0x31 tag .form [] .nothing) })

/-! ### Telemetry unit (Part 10) -/

/-- R159, R160, R161, R164: the interval timer takes a point, which joins the log (the oldest of 512 leaving) and the open batch; the
twelfth point closes the batch with FULL; the report timer closes a batch that is not empty with PERIOD; at a publication that is
GOOD, with a deadband that is not 0 and a reference, a level as far from the reference as the deadband or farther takes a point that
closes the batch with DEADBAND, and any other publication takes none. A closed batch leaves the batch empty, the report timer at 0 and
the reference at its last point's level, and becomes one LEVEL notice at the tail of the queue: the count of points, the reason, the
GAP flag, a zero byte, and the points in order. R166: with the 19 general places full the oldest LEVEL notice that waits is discarded
first, which sets the gap mark; the notice carries the mark, and the mark is cleared. -/
def Obligations.TrendTimers : Prop :=
  ∀ s : State,
    let tm := s.plant.telem
    let p : TrendPoint :=
      { seq := tm.pointCounter
        stamp := if s.env.clock.isSet then some ⟨s.env.clock.minute, s.env.clock.second⟩ else none
        level := if s.env.level.quality = .good then s.env.level.filtered else s.env.level.held
        quality := s.env.level.quality, guardState := s.plant.guard.core.state, tariff := s.env.clock.tariff
        running := (allPumps.filter fun q => (s.plant.pumps.recs.get q).state = .running).length
        heating := if s.env.sys.mode = .commission then 0
          else (allZones.filter fun z => (s.plant.load.zones.get z).isGranted).length
        inflow := tm.inflow }
    let counter := if tm.pointCounter < 4294967295 then tm.pointCounter + 1 else 0
    let log := if tm.clear.isSome then tm.log
      else if tm.log.length < 512 then tm.log ++ [p] else tm.log.drop (tm.log.length - 511) ++ [p]
    let full := 19 ≤ generalCount tm.queue
    let places := if full then tm.queue.eraseP (fun n => n.kind == .level) else tm.queue
    let gap : Byte := if tm.gap = true ∨ full then 1 else 0
    let notice := fun (reason : Byte) (ps : List TrendPoint) =>
      (⟨.level, 0, u8 ps.length ++ [reason, gap, 0] ++ ps.flatMap TrendPoint.bytes⟩ : Notice)
    (tm.batch.length < 11 → exec .trendIntervalTimer s = .next { s with plant := { s.plant with telem :=
      { tm with pointCounter := counter, inflow := 0, log := log, batch := tm.batch ++ [p], interval := 0
                report := if tm.batch = [] then 0 else tm.report } } }) ∧
    (tm.batch.length = 11 → exec .trendIntervalTimer s = .next { s with plant := { s.plant with telem :=
      { tm with pointCounter := counter, inflow := 0, log := log, batch := [], interval := 0, report := 0, gap := false
                reference := some p.level, queue := places ++ [notice 0 (tm.batch ++ [p])] } } }) ∧
    (tm.batch = [] → exec .reportTimerExpiry s = .next s) ∧
    (∀ x, tm.batch.getLast? = some x → exec .reportTimerExpiry s = .next { s with plant := { s.plant with telem :=
      { tm with batch := [], report := 0, gap := false, reference := some x.level, queue := places ++ [notice 1 tm.batch] } } }) ∧
    (∀ r, tm.reference = some r → p.quality = .good → s.env.cfg.set.deadband ≠ 0 →
      s.env.cfg.set.deadband ≤ max p.level r - min p.level r →
      handle .telemPublication s.env s.plant = ({ s.plant with telem :=
        { tm with pointCounter := counter, inflow := 0, log := log, batch := [], report := 0, gap := false
                  reference := some p.level, queue := places ++ [notice 2 (tm.batch ++ [p])] } }, [])) ∧
    (p.quality ≠ .good ∨ s.env.cfg.set.deadband = 0 ∨ tm.reference = none ∨
      (∃ r, tm.reference = some r ∧ max p.level r - min p.level r < s.env.cfg.set.deadband) →
      handle .telemPublication s.env s.plant = (s.plant, []))

/-- R163: CLEAR TREND is accepted, answered BUSY while one is in flight, and refused with FORM for a body that is not empty; its end
empties the log and queues DONE COMPLETE; an end with no clear in flight changes nothing. -/
def Obligations.ClearTrend : Prop :=
  ∀ (tag : Byte) (s : State),
    let tm := s.plant.telem
    (tag ≠ 0 → s.clearToAnswer = true → doneLoad s.env.sys s.plant < 4 →
      (tm.clear = none → exec (.clearTrend tag []) s = .next { s with
        link := repliedLink s (replyTo s 0x34 tag .accepted [] .nothing)
        plant := { s.plant with telem := { tm with clear := some tag, clearSecs := 0 } } }) ∧
      (tm.clear.isSome = true → exec (.clearTrend tag []) s =
        .next { s with link := repliedLink s (replyTo s 0x34 tag .busy [] .nothing) }) ∧
      ∀ b, b ≠ [] → exec (.clearTrend tag b) s =
        .next { s with link := repliedLink s (replyTo s 0x34 tag .form [] .nothing) }) ∧
    (∀ g, tm.clear = some g → exec .clearTrendDone s = .next { s with plant := { s.plant with telem :=
      { tm with log := [], clear := none, clearSecs := 0
                queue := tm.queue ++ [⟨.done, g, [0, 0x34, 0xFF, 0xFF, 0xFF, 0xFF, 0, 0]⟩] } } }) ∧
    (tm.clear = none → exec .clearTrendDone s = .next s)

/-- R171: SET COUNTER gives a counter its program, its codes clamped and a start after itself taken as none, and RESET COUNTER leaves
the program; each sets the count to 0, clears crossed and frozen, and starts the counter as R170 c says. SET COUNTER is answered BUSY
during a commit; a counter number outside 1..4 is refused with FORM by both. (A freeze code above 1 and a start after above 4 are left
out here: that they are refused with FORM is the model's choice, log 14. So is the code 0 of a start after of none, in the body and in
the CLAMPED reply, log 12.) -/
def Obligations.CounterRequests : Prop :=
  ∀ (tag : Byte) (s : State), tag ≠ 0 → s.clearToAnswer = true →
    let started := fun (after : Option CounterId) => match after with
      | none => true
      | some j => (s.plant.telem.counters.get j).crossed
    let zeroed := fun (i : CounterId) (after : Option CounterId) =>
      { s.plant with telem := { s.plant.telem with counters :=
        (s.plant.telem.counters.set i ⟨0, false, started after, false⟩) } }
    (∀ (i : CounterId) (ev q fr : Byte) (n a : Nat), n < 4294967296 → a ≤ 4 → fr.toNat ≤ 1 →
      (let body := u8 i.number ++ [ev, q] ++ u32 n ++ [fr] ++ u8 a ++ [0]
       let after := if a = i.number then none else counterOf a
       let clamped := 8 < ev.toNat ∨ 2 < q.toNat ∨ a = i.number
       (s.env.sys.commit = none →
         ∃ p, p.event.code = min 8 ev.toNat ∧ p.qualifier.code = min 2 q.toNat ∧ p.threshold = n ∧
           (p.freeze = true ↔ fr = 1) ∧ p.startAfter = after ∧
           exec (.setCounter tag body) s = .next { s with
             env := { s.env with cfg := { s.env.cfg with programs := s.env.cfg.programs.set i p } }
             plant := zeroed i after
             link := (repliedLink s (if clamped then replyTo s 0x36 tag .clamped
                 (u8 p.event.code ++ u8 p.qualifier.code ++ u32 n ++ [fr] ++
                   u8 (match after with | some j => j.number | none => 0)) .nothing
               else replyTo s 0x36 tag .ok [] .nothing)) }) ∧
       (s.env.sys.commit.isSome = true → exec (.setCounter tag body) s =
         .next { s with link := repliedLink s (replyTo s 0x36 tag .busy [] .nothing) }))) ∧
    (∀ i : CounterId, exec (.resetCounter tag (u8 i.number ++ [0])) s = .next { s with
      plant := zeroed i (s.env.cfg.programs.get i).startAfter
      link := repliedLink s (replyTo s 0x37 tag .ok [] .nothing) }) ∧
    ∀ n : Nat, n < 256 → n = 0 ∨ 4 < n →
      exec (.resetCounter tag (u8 n ++ [0])) s =
        .next { s with link := repliedLink s (replyTo s 0x37 tag .form [] .nothing) } ∧
      ∀ rest : List Byte, rest.length = 9 → exec (.setCounter tag (u8 n ++ rest)) s =
        .next { s with link := repliedLink s (replyTo s 0x36 tag .form [] .nothing) }

/-- R169, R170: an event adds its amount to each counter that counts it; a counter that crosses its threshold is marked, is set to
the threshold and frozen where its program says so, and has a COUNTER notice waiting; a counter that does not count keeps its
count. (Whether a counter is started is judged as it stood before the event, so that one started by another's crossing in the same
event keeps its count: the model's choice, log 17.) -/
def Obligations.CounterEvents : Prop :=
  ∀ (e : Env) (ev : CounterEvent) (n : Nat) (t : Telem) (i : CounterId),
    let p := e.cfg.programs.get i
    let c := t.counters.get i
    let c' := (t.event e ev n).counters.get i
    let total := min 4294967295 (c.count + n)
    let admitted := match p.qualifier with
      | .any => True
      | .cheap => e.clock.tariff = .cheap
      | .dear => e.clock.tariff = .dear
    let counting := p.event = ev ∧ admitted ∧ c.started = true ∧ c.frozen = false
    let crossing := p.threshold ≠ 0 ∧ c.count < p.threshold ∧ p.threshold ≤ total ∧ c.crossed = false
    (¬ counting → c'.count = c.count ∧ c'.crossed = c.crossed ∧ c'.frozen = c.frozen) ∧
    (counting → ¬ crossing → c'.count = total ∧ c'.crossed = c.crossed ∧ c'.frozen = c.frozen) ∧
    (counting → crossing → c'.count = (if p.freeze then p.threshold else total) ∧ c'.crossed = true ∧
      c'.frozen = p.freeze ∧ (∃ m ∈ (t.event e ev n).queue, m.kind = .counter i) ∧
      ∀ j, (e.cfg.programs.get j).startAfter = some i → ((t.event e ev n).counters.get j).started = true) ∧
    (c.started = true → c'.started = true)

/-! ### Modes, settings and restarts (Part 12) -/

/-- R183: SET MODE changes the mode where the table of R183 takes the change and answers OK; a failing RUN-entry check is answered STATE
with its id, any other change STATE; the mode in force is answered OK and changes nothing; a body of the wrong form or a mode code above
2 and tag 0 are refused with FORM. (In states whose setpoints keep the order of R116, as every step leaves them.) R90, R131, R148, R184,
R72: entering COMMISSION, the simulated inputs take the real values, the guard saves its record, each valve halts, saves its state and
position, sets its simulated stem, drives no step or direction output and ends its operation with DONE STOPPED, and the simulated
feedback takes the real contacts (the total of simulated litres from 0: the model's choice, log 76). In COMMISSION a step moves the stem
and no real end-stop is read. Leaving it, the guard's marks, latch and timers are as they were saved, the auto-clear timer too, which
the exit does not judge by R129 (the model's choice, log 55; with the level as the record has it also its state, reason and holds), a
valve that the guard does not hold stands where it stood, the sensors read the last good real reads (the air sensor too: its choice,
log 79), boost marks and freeze timers are
clear, circulation is QUIET, a disabled zone stays DISABLED, and no counter of HEAT_ENERGY counts. -/
def Obligations.SetMode : Prop :=
  (∀ (body : List Byte) (s : State), s.clearToAnswer = true → exec (.setMode 0 body) s =
    .next { s with link := repliedLink s (replyTo s 0x03 0 .form [] .nothing) }) ∧
  (∀ (tag : Byte) (s : State), SetpointsOrdered s → tag ≠ 0 → s.clearToAnswer = true →
    let code := fun m : Mode => match m with | .setup => (0 : Byte) | .run => 1 | .commission => 2
    let passes := ∃ bs b, s.env.cfg.geometry = some bs ∧ bs.getLast? = some b ∧ s.env.cfg.set.lOver ≤ b.level
    let taken := fun m : Mode => (s.env.sys.mode = .setup ∧ m = .run ∧ passes) ∨ (s.env.sys.mode = .run ∧ m = .setup) ∨
      (s.env.sys.mode = .setup ∧ m = .commission ∧ ∀ z, s.plant.load.zones.get z = .idle) ∨
      (s.env.sys.mode = .commission ∧ m = .setup)
    (∀ m, m = s.env.sys.mode → exec (.setMode tag [code m, 0]) s =
      .next { s with link := repliedLink s (replyTo s 0x03 tag .ok [] .nothing) }) ∧
    (∀ m, taken m → ∃ t, exec (.setMode tag [code m, 0]) s = .next t ∧ t.env.sys.mode = m ∧ t.env.cfg = s.env.cfg ∧
      t.env.pins = s.env.pins ∧ t.env.sys.store = s.env.sys.store ∧ t.env.sys.commit = s.env.sys.commit ∧
      t.env.sys.cause = s.env.sys.cause ∧ t.env.sys.storeState = s.env.sys.storeState ∧ t.pending = s.pending ∧
      (m = .run → t.env = { s.env with sys := { s.env.sys with mode := .run } }) ∧
      t.link = repliedLink s (replyTo s 0x03 tag .ok [] .nothing)) ∧
    (∀ m, m ≠ s.env.sys.mode → ¬ taken m → exec (.setMode tag [code m, 0]) s =
      .next { s with link := repliedLink s (replyTo s 0x03 tag .state
        (if s.env.sys.mode = .setup ∧ m = .run then [0, 100] else []) .nothing) }) ∧
    ∀ body : List Byte, body.length ≠ 2 ∨ body.getLast? ≠ some 0 ∨ (∃ b rest, body = b :: rest ∧ 2 < b.toNat) →
      exec (.setMode tag body) s = .next { s with link := repliedLink s (replyTo s 0x03 tag .form [] .nothing) }) ∧
  (∀ (tag : Byte) (s : State), tag ≠ 0 → s.clearToAnswer = true → s.env.sys.mode = .setup →
    (∀ z, s.plant.load.zones.get z = .idle) → ∃ t, exec (.setMode tag [2, 0]) s = .next t ∧ t.env.sys.mode = .commission ∧
      (let x := s.plant.frost.sensors
       t.env.sys.sim = ⟨s.env.level.transducer, s.env.level.low.reported, s.env.level.overFloat.reported,
         ⟨x.z1.reading, x.z2.reading, x.z3.reading, x.z4.reading, s.plant.frost.air.reading⟩, s.env.clock.line, 0, 0⟩) ∧
      t.plant.guard.saved = some s.plant.guard.core ∧
      (∀ p, (t.plant.pumps.recs.get p).simFeedback = s.env.pins.feedback.get p) ∧
      ∀ v, let r := s.plant.valves.get v
        let w := t.plant.valves.get v
        w.op = none ∧ w.stepOutput t.env = false ∧ w.directionOutput t.env = none ∧
        (∀ op, r.op = some op → ∃ n ∈ t.plant.telem.queue, n.kind = .done ∧ n.tag = op.tag ∧ n.body.head? = some 4) ∧
        (∀ x, r.state = .moving → r.position = some x → r.seat = none → w.saved = some (.idle, some x) ∧ w.stem = x) ∧
        (r.state = .moving → r.position = none ∨ r.seat ≠ none → w.saved = some (.unhomed, none) ∧ w.stem = 1000) ∧
        (r.state = .homing → w.saved = some (if r.fromFault then .fault else .unhomed, none) ∧ w.stem = 1000) ∧
        (r.state ≠ .moving → r.state ≠ .homing → w.saved = some (r.state, r.position) ∧
          w.stem = match r.position with | some x => (x : Int) | none => 1000)) ∧
  (∀ (v : ValveId) (k : EndStop) (s : State), s.env.sys.mode = .commission →
    let r := s.plant.valves.get v
    let opening := (r.state = .moving ∧ ∃ x y, r.position = some x ∧ r.target = some y ∧ x < y) ∨
      (r.state = .homing ∧ ∃ n, r.phase = some (.backOff n))
    r.state = .moving ∨ r.state = .homing → r.unread = false → r.seat = none →
    ∃ t, exec (.valveStep v k) s = .next t ∧ t.env = s.env ∧ t.link = s.link ∧ (t.plant.valves.get v).endStop = r.endStop ∧
      (opening → (t.plant.valves.get v).stem = r.stem + 1) ∧ (¬ opening → (t.plant.valves.get v).stem = r.stem - 1)) ∧
  ∀ (tag : Byte) (s : State), tag ≠ 0 → s.clearToAnswer = true → s.env.sys.mode = .commission →
    ∃ t, exec (.setMode tag [0, 0]) s = .next t ∧ t.env.sys.mode = .setup ∧
      (∀ z, t.plant.frost.sensors.get z = ⟨s.plant.frost.realGood.zone z, false, 0, 0⟩ ∧
        (t.plant.frost.zones.get z).boost = false ∧ (t.plant.frost.zones.get z).freeze = 0 ∧
        ((s.env.cfg.set.zone.get z).enabled = false → (t.plant.frost.zones.get z).state = .disabled)) ∧
      t.plant.frost.air = ⟨s.plant.frost.realGood.air, false, 0, 0⟩ ∧ t.plant.frost.circ.state = .quiet ∧
      (∀ i, (s.env.cfg.programs.get i).event = .heatEnergy →
        (t.plant.telem.counters.get i).count = (s.plant.telem.counters.get i).count) ∧
      ∀ k, s.plant.guard.saved = some k →
        let g := t.plant.guard.core
        t.plant.guard.saved = none ∧ g.latch = k.latch ∧ g.high = k.high ∧ g.highHigh = k.highHigh ∧ g.release = k.release ∧
        g.autoClear = k.autoClear ∧
        (t.plant.cut = false → k.fast = false → s.env.level.rate = none → chooseGuard s.env k = (k.state, k.reason) →
          (∀ p, p ∉ s.plant.pumps.duty → (s.plant.pumps.recs.get p).served = .empty) →
          g = k ∧
          ∀ v st pos, (s.plant.valves.get v).saved = some (st, pos) → (if v = .inlet then k.inletHold else k.dumpHold) = none →
            let w := t.plant.valves.get v
            w.saved = none ∧ w.state = st ∧ w.position = pos ∧ w.target = pos ∧ w.owner = .none)

/-- R187, R20, R32, R180, section 3.2: POWER_ON, SUPPLY_DIP_RESTART and RESET_LINE each carry out a restart in every state; it sets its
cause, comes up in RUN exactly when the RUN-entry checks pass, and clears the link. A full one (power on, supply dip) loads the store
where its check passes, or the factory defaults, and unsets the clock; a warm one (reset line) keeps the working settings, the day clock
and the level at which it stood. With the OVER float DRY (and, at a warm restart, the latch clear) the guard stands in SHUT for RESTART
with the limit ZERO. R49, R73, R91, R115, R149, R158, R173: no pump claims, the cap in force is the tariff's; every fitted pump is
RESTING with its timer at 0 and not called, one in LOCKOUT or OUT kept by a warm restart, and the duty list is rebuilt; the valves are
UNHOMED or stand where they stood, the guard holding the inlet at 0; the sensors have taken their first read and each zone stands as it
calls for; the alarm table holds the appearances of the restart alone; the batch, the marks and the DONE notices of the telemetry unit
are gone, the log, the counters and the learned draw too at a full one. (In states whose setpoints keep the order of R116, as every step
leaves them; the second part where no chain was cut short, log 4. That a commit in flight leaves a store whose check fails is the
model's inference, log 11; that the first read takes the bus's last answers is its choice, log 9, and so are the state timer of a pump
kept, log 50, that of one not fitted, log 73, and the level that a warm restart holds before any publication, log 60.) -/
def Obligations.Restarts : Prop :=
  ∀ s : State, SetpointsOrdered s →
    let runEntered := fun w : Working =>
      ∃ bs b, w.geometry = some bs ∧ bs.getLast? = some b ∧ w.set.lOver ≤ b.level
    let found := match s.env.sys.commit with | none => s.env.sys.store | some c => Store.broken c.snapshot
    let whole := if found.check = storeCheck found.content then some found.content else none
    let common := fun (t : State) (c : Cause) (w : Working) =>
      t.env.sys.cause = c ∧ t.env.cfg = w ∧ t.env.sys.commit = none ∧ t.env.sys.store = found ∧ t.env.pins = s.env.pins ∧
      t.pending = s.pending ∧ t.link = { Link.reset with rate := w.set.lineRate } ∧
      (runEntered w → t.env.sys.mode = .run) ∧ (¬ runEntered w → t.env.sys.mode = .setup) ∧
      t.env.level.published = false ∧ t.env.level.quality = .held ∧ t.env.level.window = [] ∧
      t.env.level.low = ⟨s.env.pins.low, none⟩ ∧ t.env.level.overFloat = ⟨s.env.pins.overFloat, none⟩ ∧
      t.env.clock.tariff = tariffOf w t.env.clock
    let shut := fun t : State => t.plant.guard.core.state = .shut ∧ t.plant.guard.core.reason = .restart ∧
      t.plant.guard.core.latch = false ∧ t.plant.pumps.limit = .zero ∧ ∀ p, (t.plant.pumps.recs.get p).run = none
    let rebuilt := fun (t : State) (full : Bool) (w : Working) =>
      let u := t.plant.pumps
      let tb := t.plant.load
      let tm := t.plant.telem
      let alarm := fun k => (t.plant.alarms.get k).state
      let cheap := t.env.clock.tariff = .cheap
      let good := fun a : Option Int => match a with | some x => if -550 ≤ x ∧ x ≤ 1250 then some x else none | none => none
      let firstRead := fun a => match good a with | some x => (⟨some x, false, 0, 1⟩ : Sensor) | none => ⟨none, false, 1, 0⟩
      tb.cap = (if cheap then w.set.capCheap else w.set.capDear) ∧
      (∀ p,
        let r := s.plant.pumps.recs.get p
        let q := u.recs.get p
        let kept := full = false ∧ (r.state = .lockout ∨ r.state = .out)
        tb.pumps.get p = .idle ∧ q.timer = 0 ∧ q.run = none ∧ q.served = .empty ∧ q.windowMark = false ∧
        (w.set.pumpsFitted < pumpNumber p → q.state = .off) ∧
        (pumpNumber p ≤ w.set.pumpsFitted → kept → q.state = r.state) ∧
        (pumpNumber p ≤ w.set.pumpsFitted → ¬ kept → q.state = .resting)) ∧
      u.duty = (allPumps.filter fun p => decide (pumpNumber p ≤ w.set.pumpsFitted ∧ (u.recs.get p).state = .resting)) ∧
      u.fillK = 0 ∧ u.boostK = 0 ∧ u.circ = false ∧ (u.reserve = true ↔ s.env.pins.low = .dry) ∧ u.spacing = 65535 ∧
      u.rotationPending = false ∧ u.inletRequest = false ∧ (u.windowOpen = true ↔ cheap) ∧
      u.stagnation = (if full then w.set.stagnationLimit else s.plant.pumps.stagnation) ∧
      (t.plant.fill.windowOpen = true ↔ cheap) ∧ t.plant.fill.boost = none ∧ t.plant.fill.plan.state = .idle ∧
      t.plant.fill.draw = (if full then w.set.initialDraw else s.plant.fill.draw) ∧
      (let v := t.plant.valves.inlet
       v.owner = .guard ∧ v.op = none ∧ v.waiting = none ∧ v.saved = none ∧ t.plant.guard.core.inletHold = some 0 ∧
       (v.position = none → v.state = .homing) ∧ (∀ x, v.position = some x → x ≠ 0 → v.state = .moving ∧ v.target = some 0) ∧
       (full = true → v.position = none ∧ v.fromFault = false) ∧
       (full = false → s.plant.valves.inlet.saved = none → s.plant.valves.inlet.state = .idle →
         v.position = s.plant.valves.inlet.position)) ∧
      (t.plant.guard.core.latch = false →
        let r := s.plant.valves.dump
        let v := t.plant.valves.dump
        let stands := fun (st : ValveState) (x : Option Nat) => v.state = st ∧ v.position = x
        v.owner = .none ∧ v.op = none ∧ v.saved = none ∧ (full = true → stands .unhomed none ∧ v.target = none) ∧
        (full = false → r.saved = none →
          (∀ x, r.state = .moving → r.position = some x → r.seat = none → stands .idle (some x) ∧ v.target = some x) ∧
          (r.state = .moving → r.position = none ∨ r.seat ≠ none → stands .unhomed none ∧ v.target = none) ∧
          (r.state = .homing → stands (if r.fromFault then .fault else .unhomed) none ∧ v.target = none) ∧
          (r.state = .idle → stands .idle r.position ∧ v.target = r.position) ∧
          (r.state = .unhomed ∨ r.state = .fault → stands r.state none ∧ v.target = none))) ∧
      (∀ z,
        let q := t.plant.frost.zones.get z
        let x := t.plant.frost.sensors.get z
        let k := tb.zones.get z
        x = firstRead (s.env.pins.bus.zone z) ∧ q.fallback = none ∧ q.freeze = 0 ∧
        ((w.set.zone.get z).enabled = false → q.state = .disabled ∧ k = .idle) ∧
        ((w.set.zone.get z).enabled = true → x.reading = none ∨
          (q.boost = false ∧ ∃ y, x.reading = some y ∧ (w.set.zone.get z).onBelow ≤ y) →
          q.state = .off ∧ q.timer = 65535 ∧ k = .idle) ∧
        (∀ y, (w.set.zone.get z).enabled = true → x.reading = some y → y < (w.set.zone.get z).onBelow →
          k ≠ .idle ∧ q.state = (if k.isGranted then .heat else .want))) ∧
      t.plant.frost.air = firstRead s.env.pins.bus.air ∧
      (t.plant.frost.circ = ⟨.quiet, 0, 0, 0, none⟩ ∨ t.plant.frost.circ = ⟨.refused, 0, 0, 0, some .level⟩) ∧
      alarm .store = (if t.env.sys.storeState = .loaded then .quiet else .active) ∧
      alarm .supplyDip = (if t.env.sys.cause = .dip then .latched else .quiet) ∧
      alarm .tariffUnknown = (if t.env.clock.tariff = .unknown then .active else .quiet) ∧
      alarm .lowReserve = (if s.env.pins.low = .dry then .active else .quiet) ∧
      alarm .overflowTrip = (if t.plant.guard.core.latch then .active else .quiet) ∧
      (∀ p, alarm (pumpFault p) = if (u.recs.get p).state = .lockout then .active else .quiet) ∧
      (∀ v, alarm (valveFault v) = if (t.plant.valves.get v).state = .fault ∨ (t.plant.valves.get v).fromFault then .active
        else .quiet) ∧
      (∀ k ∈ [AlarmKind.highHigh, .high, .levelSensor, .levelDisagree, .freeze, .hostSilent, .zone1Sensor, .zone2Sensor, .zone3Sensor,
          .zone4Sensor, .airSensor, .fillShortfall, .meter, .valveSlip], t.plant.alarms.get k = ⟨.quiet, none, none, 0⟩) ∧
      tm.batch = [] ∧ tm.gap = false ∧ tm.reference = none ∧ tm.interval = 0 ∧ tm.inflow = 0 ∧ tm.clear = none ∧
      (∃ m rest, tm.queue = m :: rest ∧ m.kind = .status) ∧ (∀ m ∈ tm.queue, m.kind ≠ .done) ∧
      tm.log = (if full ∨ s.plant.telem.clear.isSome then [] else s.plant.telem.log) ∧
      tm.pointCounter = (if full then 0 else s.plant.telem.pointCounter) ∧
      ∀ i, (w.programs.get i).event ≠ .alarmRaises → (w.programs.get i).event ≠ .guardShuts →
        (tm.counters.get i).count = (if full then 0 else (s.plant.telem.counters.get i).count) ∧
        (tm.counters.get i).crossed = (if full then false else (s.plant.telem.counters.get i).crossed) ∧
        (full = true → (w.programs.get i).startAfter = none → (tm.counters.get i).started = true)
    (∀ c i, (c = .cold ∧ i = Instr.powerOn) ∨ (c = .dip ∧ i = Instr.supplyDipRestart) →
      ∃ t, exec i s = .next t ∧ common t c (whole.getD .factory) ∧ t.env.clock.isSet = false ∧ t.env.level.held = 0 ∧
        t.env.sys.storeState = (if whole = none then .defaults else .loaded) ∧
        (s.env.pins.overFloat = .dry → shut t) ∧ (t.plant.cut = false → rebuilt t true (whole.getD .factory))) ∧
    ∃ t, exec .resetLine s = .next t ∧ common t .pin s.env.cfg ∧ t.env.clock.isSet = s.env.clock.isSet ∧
      t.env.clock.minute = s.env.clock.minute ∧ t.env.clock.second = s.env.clock.second ∧
      t.env.clock.learned = s.env.clock.learned ∧
      t.env.level.held = (if s.env.level.quality = .good then s.env.level.filtered else s.env.level.held) ∧
      t.env.sys.storeState = (if s.env.sys.commit = none then s.env.sys.storeState else .commitFailed) ∧
      (s.env.pins.overFloat = .dry → s.plant.guard.saved = none → s.plant.guard.core.latch = false → shut t) ∧
      (t.plant.cut = false → rebuilt t false s.env.cfg)

/-- R186: COMMIT SETTINGS takes the working settings as they stand and answers ACCEPTED, BUSY while one is in flight, FORM for a body
that is not empty; its end queues DONE with COMPLETE or FAULT, sets the store and its state, and leaves the working settings: a commit
that passes leaves the snapshot under its 16-bit check, computed as the link check is, one that fails a store whose check fails (the
model's inference, log 11; the layout of the bytes under the check is its choice, log 53). An end with no commit in flight changes
nothing. -/
def Obligations.CommitSettings : Prop :=
  ∀ (tag : Byte) (s : State),
    (tag ≠ 0 → s.clearToAnswer = true → doneLoad s.env.sys s.plant < 4 →
      (s.env.sys.commit = none → exec (.commitSettings tag []) s = .next { s with
        link := repliedLink s (replyTo s 0x16 tag .accepted [] .nothing)
        env := { s.env with sys := { s.env.sys with commit := some ⟨tag, s.env.cfg⟩ } } }) ∧
      (s.env.sys.commit.isSome = true → exec (.commitSettings tag []) s =
        .next { s with link := repliedLink s (replyTo s 0x16 tag .busy [] .nothing) }) ∧
      ∀ b, b ≠ [] → exec (.commitSettings tag b) s =
        .next { s with link := repliedLink s (replyTo s 0x16 tag .form [] .nothing) }) ∧
    (∀ pass, s.env.sys.commit = none → exec (.commitDone pass) s = .next s) ∧
    ∀ (pass : Bool) (c : Commit), s.env.sys.commit = some c → s.plant.alarms.table.length = 24 →
      ∃ t, exec (.commitDone pass) s = .next t ∧ t.link = s.link ∧ t.pending = s.pending ∧
        t.env = { s.env with sys := { s.env.sys with
          commit := none, store := t.env.sys.store
          storeState := if pass then .loaded else .commitFailed } } ∧
        (pass = true → t.env.sys.store = ⟨c.snapshot, crc (storeBytes c.snapshot)⟩) ∧
        (pass = false → t.env.sys.store.content = c.snapshot ∧ t.env.sys.store.check ≠ crc (storeBytes c.snapshot)) ∧
        (⟨.done, c.tag, [(if pass then 0 else 1), 0x16, 0xFF, 0xFF, 0xFF, 0xFF, 0, 0]⟩ : Notice) ∈ t.plant.telem.queue ∧
        ((t.plant.alarms.get .store).state.present = true ↔ pass = false)

/-- R185, R116, R75, R92, R135, R179: WRITE SETTING of a setting that may be written takes the value, brought into the range in force
(a supervision period of 1..9 to 10); the settings that depend on it are brought into their ranges; no other setting changes; the
reply is OK where the value was taken as given and nothing moved, CLAMPED otherwise. BUSY during a commit, STATE for a structural
setting outside SETUP, RANGE for a setpoint or a tank top that would break the order. (That a supervision period is clamped from a
lower end of 0 before the gap 1..9 is brought to 10 is the model's inference, log 31.) What an accepted write brings about: a tank top
lowers the window, the filtered and the held level, and the level is published and T_ovf reckoned again where the published level falls
(R3, R9 c, R11; that before the first publication such a write publishes nothing and leaves T_ovf is the model's inference, log 29, for
R9 c, unlike R9 d, names no such condition); L_high lowers an active boost level, unless the guard's evaluation ends the boost (R92 b, R109); each setting of the guard is followed by its
tests against the level last published and its evaluation (R116, R118 to R120); the rating of a zone that alone holds a claim brings it
back to WAITING where it no longer fits under the cap, and leaves it GRANTED otherwise (R45 b, c); pumps that become fitted are RESTING
at the tail of the duty list, and one that becomes unfitted is OFF, has no claim and no place on it, and its fault condition goes (R72 a;
P1 first, the model's choice, log 49); a zone taken out is DISABLED, its boost mark, freeze timer, claim and sensor condition gone, and
one brought back is in FALLBACK with its sensor condition, or is OFF with its minimum time served and judged at once (R141); a trend
interval and a report period at or below their timers take a point and close the batch (R160 a, R164). No other setting moves the level
unit, none but the tariff source the clock, and one that only stands for later use changes no block. -/
def Obligations.WriteSetting : Prop :=
  ∀ (tag : Byte) (i : SettingId) (v : Int) (s : State), tag ≠ 0 → s.clearToAnswer = true →
    -2147483648 ≤ v → v < 2147483648 → (rangeOf s.env.cfg.set i).1 ≤ (rangeOf s.env.cfg.set i).2 →
    let body := u16 i.number ++ s32 v ++ [0]
    let range := rangeOf s.env.cfg.set i
    let clamp := fun (r : Int × Int) (x : Int) => if x < r.1 then r.1 else if r.2 < x then r.2 else x
    let w := if i = .supervision ∧ 0 < clamp range v ∧ clamp range v < 10 then 10 else clamp range v
    let moves := s.env.sys.commit = none ∧ (i.structural = true → s.env.sys.mode = .setup)
    let keepsOrder := i.ordered = true → Ordered (putSetting s.env.cfg.set i w)
    (moves → keepsOrder → ∃ t, exec (.writeSetting tag body) s = .next t ∧ t.pending = s.pending ∧
      t.env.sys = s.env.sys ∧ t.env.pins = s.env.pins ∧ t.env.cfg = { s.env.cfg with set := t.env.cfg.set } ∧
      getSetting t.env.cfg.set i = w ∧
      (∀ j, j ≠ i → j ∉ dependents i → getSetting t.env.cfg.set j = getSetting s.env.cfg.set j) ∧
      (∀ j ∈ dependents i, getSetting t.env.cfg.set j = clamp (rangeOf t.env.cfg.set j) (getSetting s.env.cfg.set j)) ∧
      ∃ moved, t.link = repliedLink s (replyTo s 0x10 tag (if w = v ∧ moved = [] then .ok else .clamped)
          (u16 i.number ++ s32 w ++ u8 moved.length ++
            moved.flatMap fun j => u16 j.number ++ s32 (getSetting t.env.cfg.set j))
          (if i = .lineRate then .lineRate w.toNat else .nothing)) ∧
        ∀ j, j ∈ moved ↔ j ∈ dependents i ∧ getSetting t.env.cfg.set j ≠ getSetting s.env.cfg.set j) ∧
    (∀ t, moves → keepsOrder → exec (.writeSetting tag body) s = .next t →
      let c := t.env.cfg.set
      let u := s.env.level
      let l := if u.quality = .good then u.filtered else u.held
      let n := w.toNat
      let P := s.plant
      let Q := t.plant
      (i ≠ .lTop → t.env.level = u) ∧ (i ≠ .source → t.env.clock = s.env.clock) ∧
      (i = .lTop →
        t.env.level = { u with window := u.window.map (min n), filtered := min n u.filtered, held := t.env.level.held
                               tOvf := t.env.level.tOvf } ∧
        (u.published = true → n < l → t.env.level.held = n) ∧
        (u.published = true → n < l → u.rate = none → t.env.level.tOvf = 999) ∧
        (u.published = true → n < l → ∀ r, u.rate = some r → t.env.level.tOvf =
          if r ≤ 0 then 999 else if c.lOver ≤ n then 0 else min 999 ((c.lOver - n) / r.toNat)) ∧
        (u.published = false ∨ l ≤ n → t.env.level.held = min n u.held ∧ t.env.level.tOvf = u.tOvf)) ∧
      (i = .lHigh → ∀ b, P.fill.boost = some b →
        Q.fill.boost = some ⟨min b.level (n - 100), b.k⟩ ∨
          (Q.fill.boost = none ∧ Q.fill.boostEnd = some .guard ∧
            (Q.guard.core.state = .shut ∨ Q.guard.core.state = .trip))) ∧
      (i = .lHigh ∨ i = .lHh ∨ i = .lOver ∨ i = .hysteresis ∨ i = .tWarn →
        let g := P.guard.core
        let h := Q.guard.core
        let usable := u.published = true ∧ u.quality ≠ .invalid
        let clears := u.quality = .invalid ∨ (u.quality = .good ∧ l + c.hysteresis < c.lHigh)
        (h.high = true ↔ (usable ∧ c.lHigh ≤ l) ∨ (g.high = true ∧ ¬ clears)) ∧
        (h.highHigh = true ↔ (usable ∧ c.lHh ≤ l) ∨ g.highHigh = true) ∧ h.latch = g.latch ∧
        (Q.cut = false → chooseGuard t.env h = (h.state, h.reason))) ∧
      (∀ z cls seq gr, i = .zoneRating z → P.load.zones.get z = .granted cls seq gr →
        (∀ o, o ≠ .zone z → P.load.claim o = .idle) →
        (P.load.cap < n → (Q.load.zones.get z).isWaiting = true ∧ (Q.load.zones.get z).cls? = some cls ∧
          ((P.frost.zones.get z).state = .heat → (Q.frost.zones.get z).state = .want ∧ (Q.frost.zones.get z).timer = 0)) ∧
        (n ≤ P.load.cap → Q.load.zones.get z = .granted cls seq gr)) ∧
      (i = .pumpsFitted → DutyListSound s → P.pumps.rotationPending = false →
        Q.pumps.duty = P.pumps.duty.filter (fun p => pumpNumber p ≤ n) ++
          allPumps.filter (fun p => s.env.cfg.set.pumpsFitted < pumpNumber p ∧ pumpNumber p ≤ n) ∧
        ∀ p,
          let r := P.pumps.recs.get p
          let q := Q.pumps.recs.get p
          (s.env.cfg.set.pumpsFitted < pumpNumber p → pumpNumber p ≤ n → q.state = .resting ∧ q.timer = 0 ∧ q.served = .empty) ∧
          (pumpNumber p ≤ s.env.cfg.set.pumpsFitted → n < pumpNumber p → q.state = .off ∧ q.served = .empty ∧ q.run = none ∧
            Q.load.pumps.get p = .idle ∧
            (r.state = .lockout → P.alarms.table.length = 24 → (Q.alarms.get (pumpFault p)).state.present = false))) ∧
      (∀ z, i = .enabled z →
        let was := (s.env.cfg.set.zone.get z).enabled
        let r := P.frost.zones.get z
        let o := P.frost.sensors.get z
        let q := Q.frost.zones.get z
        (was = decide (n = 1) → Q = P) ∧
        (was = true → n = 0 → q.state = .disabled ∧ q.boost = false ∧ q.freeze = 0 ∧ q.fallback = none ∧
          Q.load.zones.get z = .idle ∧
          (P.alarms.table.length = 24 → (Q.alarms.get (zoneSensor z)).state.present = false)) ∧
        (was = false → n = 1 → o.faulted = true → q.state = .fallback ∧
          (P.alarms.table.length = 24 → (Q.alarms.get (zoneSensor z)).state.present = true)) ∧
        (was = false → n = 1 → o.faulted = false → r.boost = false → P.load.zones.get z = .idle →
          (o.reading.any (· < (c.zone.get z).onBelow) = false →
            Q = { P with frost := { P.frost with zones := P.frost.zones.set z { r with state := .off, timer := 65535 } } }) ∧
          (o.reading.any (· < (c.zone.get z).onBelow) = true → Q.load.zones.get z ≠ .idle ∧
            q.state = if (Q.load.zones.get z).isGranted then .heat else .want))) ∧
      (i = .trendInterval →
        (n ≤ P.telem.interval → Q.telem.interval = 0 ∧
          Q.telem.pointCounter = if P.telem.pointCounter < 4294967295 then P.telem.pointCounter + 1 else 0) ∧
        (P.telem.interval < n → Q = P)) ∧
      (i = .reportPeriod →
        (P.telem.batch ≠ [] → n ≤ P.telem.report → Q.telem.batch = [] ∧ Q.telem.report = 0 ∧
          ∃ b ∈ Q.telem.queue, b.kind = .level) ∧
        (P.telem.batch = [] ∨ P.telem.report < n → Q = P)) ∧
      (i ∈ [.offsetTrim, .span, .gainTrim, .datum, .nominal, .feedbackTime, .startSpacing, .stepRate, .pOpen, .pFill, .pDump,
        .initialDraw, .blindLimit, .litresPerPulse, .circBelow, .stagnationLimit, .circHeadroom, .relayThreshold, .deadband,
        .lineRate, .supervision] → Q = P)) ∧
    (moves → ¬ keepsOrder → exec (.writeSetting tag body) s =
      .next { s with link := repliedLink s (replyTo s 0x10 tag .range [] .nothing) }) ∧
    (s.env.sys.commit.isSome = true → exec (.writeSetting tag body) s =
      .next { s with link := repliedLink s (replyTo s 0x10 tag .busy [] .nothing) }) ∧
    (s.env.sys.commit = none → i.structural = true → s.env.sys.mode ≠ .setup → exec (.writeSetting tag body) s =
      .next { s with link := repliedLink s (replyTo s 0x10 tag .state [] .nothing) })

/-- R184, R12, R26: SIMULATE INPUTS in COMMISSION replaces every simulated input, clamping the raw code to 4095 and a contact code to
1, and the debounces see the new contacts; the reply is OK, or CLAMPED with the values taken. Outside COMMISSION it is refused with
STATE; a body of the wrong length or a reserved byte not zero is refused with FORM. (That the debounces see the contacts at once is the model's
inference, log 81; that the CLAMPED reply gives all the values, and not the clamped ones alone, is its choice, log 81.) -/
def Obligations.SimulateInputs : Prop :=
  ∀ (tag low overFloat line : Byte) (raw rate : Nat) (z1 z2 z3 z4 air : Option Int) (s : State), tag ≠ 0 →
    s.clearToAnswer = true → raw < 65536 → rate < 65536 → (∀ x ∈ [z1, z2, z3, z4, air], wfAnswer x = true) →
    let body := u16 raw ++ [low, overFloat] ++ s16? z1 ++ s16? z2 ++ s16? z3 ++ s16? z4 ++ s16? air ++ [line] ++ u16 rate ++ [0]
    let wet := fun b : Byte => if b = 0 then Wet.wet else .dry
    let contact := if line = 0 then Contact.closed else .opened
    let sees := fun (f : FloatRec) (w : Wet) =>
      (⟨f.reported, if w = f.reported then none else some (f.debounce.getD 0)⟩ : FloatRec)
    (s.env.sys.mode = .commission → exec (.simulateInputs tag body) s = .next { s with
      env := { s.env with
        sys := { s.env.sys with sim := { s.env.sys.sim with
          raw := min 4095 raw, low := wet low, overFloat := wet overFloat, temps := ⟨z1, z2, z3, z4, air⟩, tariff := contact
          inflowRate := rate } }
        level := { s.env.level with
          low := sees s.env.level.low (wet low), overFloat := sees s.env.level.overFloat (wet overFloat) }
        clock := { s.env.clock with lineDebounce :=
          if contact = s.env.clock.line then none else some (s.env.clock.lineDebounce.getD 0) } }
      link := (repliedLink s (if raw ≤ 4095 ∧ low.toNat ≤ 1 ∧ overFloat.toNat ≤ 1 ∧ line.toNat ≤ 1
        then replyTo s 0x21 tag .ok [] .nothing
        else replyTo s 0x21 tag .clamped (u16 (min 4095 raw) ++ [if low = 0 then 0 else 1, if overFloat = 0 then 0 else 1] ++
          s16? z1 ++ s16? z2 ++ s16? z3 ++ s16? z4 ++ s16? air ++ [if line = 0 then 0 else 1] ++ u16 rate) .nothing)) }) ∧
    (s.env.sys.mode ≠ .commission → exec (.simulateInputs tag body) s =
      .next { s with link := repliedLink s (replyTo s 0x21 tag .state [] .nothing) }) ∧
    ∀ b : List Byte, b.length ≠ 18 ∨ b.getLast? ≠ some 0 → exec (.simulateInputs tag b) s =
      .next { s with link := repliedLink s (replyTo s 0x21 tag .form [] .nothing) }

/-! ### Invariants of the whole part -/

/-- R116: whatever step is taken, L_high < L_hh < L_over ≤ L_top holds in the working settings, in the store and in a commit. -/
def Obligations.SetpointOrderKept : Prop := ∀ s t : State, SetpointsOrdered s → step s = .next t → SetpointsOrdered t

/-- R3, R4, R5: whatever step is taken, the window holds at most five values, and its values, the filtered and the held level lie
within the tank. -/
def Obligations.LevelStaysInTank : Prop := ∀ s t : State, LevelInTank s → step s = .next t → LevelInTank t

/-- R165, R166: for every queue and every notice but LEVEL: a notice of a coalesced kind takes the place of the one of its kind that
waits; any other joins the tail; a general one that finds the 19 general places full discards the oldest LEVEL notice, and no other,
and sets the gap mark. (A LEVEL notice joins in the same way as its batch is closed, `Obligations.TrendTimers`.) R165, R166, R167:
whatever step is taken, the notice queue keeps its places and the DONE load its limit; the tables and buffers keep theirs (R150, R161,
R164, R177). -/
def Obligations.QueuesKept : Prop :=
  (∀ (tm : Telem) (n : Notice), n.kind ≠ .level →
    let full := n.kind ≠ .alarm ∧ n.kind ≠ .done ∧ 19 ≤ generalCount tm.queue
    (∀ before m after, tm.queue = before ++ m :: after → n.kind ≠ .done → m.kind = n.kind →
      (∀ x, x ∈ before ∨ x ∈ after → x.kind ≠ n.kind) → tm.queueNotice n = { tm with queue := before ++ n :: after }) ∧
    (n.kind = .done ∨ (∀ m ∈ tm.queue, m.kind ≠ n.kind) →
      (¬ full → tm.queueNotice n = { tm with queue := tm.queue ++ [n] }) ∧
      (full → ∀ before m after, tm.queue = before ++ m :: after → m.kind = .level → (∀ x ∈ before, x.kind ≠ .level) →
        tm.queueNotice n = { tm with queue := before ++ after ++ [n], gap := true }))) ∧
  (∀ s t : State, QueueSound s → step s = .next t → QueueSound t) ∧
  ∀ s t : State, BuffersSound s → step s = .next t → BuffersSound t

/-- The state after reset is sound: every invariant that the statements above keep holds in it. -/
def Obligations.InvariantsAtReset : Prop :=
  CapKept State.reset ∧ OneStarting State.reset ∧ DutyListSound State.reset ∧ PumpsSound State.reset ∧ SetpointsOrdered State.reset ∧
    LevelInTank State.reset ∧ TariffSound State.reset ∧ QueueSound State.reset ∧ BuffersSound State.reset
end

