-- ==== Sys2Proof/Laws/State.lean ====
section
/-! SUPPORT. One lemma for each field of each update of the plant and of the state, true by unfolding, so that no proof unfolds a
record update again. -/

namespace Sys2Proof.Machine

/-! ### The plant -/

@[simp] theorem Plant.setLoad_load (P : Plant) (x : LoadTable) : (P.setLoad x).load = x := rfl
@[simp] theorem Plant.setLoad_pumps (P : Plant) (x : LoadTable) : (P.setLoad x).pumps = P.pumps := rfl
@[simp] theorem Plant.setLoad_valves (P : Plant) (x : LoadTable) : (P.setLoad x).valves = P.valves := rfl
@[simp] theorem Plant.setLoad_guard (P : Plant) (x : LoadTable) : (P.setLoad x).guard = P.guard := rfl
@[simp] theorem Plant.setLoad_fill (P : Plant) (x : LoadTable) : (P.setLoad x).fill = P.fill := rfl
@[simp] theorem Plant.setLoad_frost (P : Plant) (x : LoadTable) : (P.setLoad x).frost = P.frost := rfl
@[simp] theorem Plant.setLoad_alarms (P : Plant) (x : LoadTable) : (P.setLoad x).alarms = P.alarms := rfl
@[simp] theorem Plant.setLoad_telem (P : Plant) (x : LoadTable) : (P.setLoad x).telem = P.telem := rfl
@[simp] theorem Plant.setLoad_cut (P : Plant) (x : LoadTable) : (P.setLoad x).cut = P.cut := rfl

@[simp] theorem Plant.setPumps_load (P : Plant) (x : Pumps) : (P.setPumps x).load = P.load := rfl
@[simp] theorem Plant.setPumps_pumps (P : Plant) (x : Pumps) : (P.setPumps x).pumps = x := rfl
@[simp] theorem Plant.setPumps_valves (P : Plant) (x : Pumps) : (P.setPumps x).valves = P.valves := rfl
@[simp] theorem Plant.setPumps_guard (P : Plant) (x : Pumps) : (P.setPumps x).guard = P.guard := rfl
@[simp] theorem Plant.setPumps_fill (P : Plant) (x : Pumps) : (P.setPumps x).fill = P.fill := rfl
@[simp] theorem Plant.setPumps_frost (P : Plant) (x : Pumps) : (P.setPumps x).frost = P.frost := rfl
@[simp] theorem Plant.setPumps_alarms (P : Plant) (x : Pumps) : (P.setPumps x).alarms = P.alarms := rfl
@[simp] theorem Plant.setPumps_telem (P : Plant) (x : Pumps) : (P.setPumps x).telem = P.telem := rfl
@[simp] theorem Plant.setPumps_cut (P : Plant) (x : Pumps) : (P.setPumps x).cut = P.cut := rfl

@[simp] theorem Plant.setValves_load (P : Plant) (x : Valves) : (P.setValves x).load = P.load := rfl
@[simp] theorem Plant.setValves_pumps (P : Plant) (x : Valves) : (P.setValves x).pumps = P.pumps := rfl
@[simp] theorem Plant.setValves_valves (P : Plant) (x : Valves) : (P.setValves x).valves = x := rfl
@[simp] theorem Plant.setValves_guard (P : Plant) (x : Valves) : (P.setValves x).guard = P.guard := rfl
@[simp] theorem Plant.setValves_fill (P : Plant) (x : Valves) : (P.setValves x).fill = P.fill := rfl
@[simp] theorem Plant.setValves_frost (P : Plant) (x : Valves) : (P.setValves x).frost = P.frost := rfl
@[simp] theorem Plant.setValves_alarms (P : Plant) (x : Valves) : (P.setValves x).alarms = P.alarms := rfl
@[simp] theorem Plant.setValves_telem (P : Plant) (x : Valves) : (P.setValves x).telem = P.telem := rfl
@[simp] theorem Plant.setValves_cut (P : Plant) (x : Valves) : (P.setValves x).cut = P.cut := rfl

@[simp] theorem Plant.setGuard_load (P : Plant) (x : Guard) : (P.setGuard x).load = P.load := rfl
@[simp] theorem Plant.setGuard_pumps (P : Plant) (x : Guard) : (P.setGuard x).pumps = P.pumps := rfl
@[simp] theorem Plant.setGuard_valves (P : Plant) (x : Guard) : (P.setGuard x).valves = P.valves := rfl
@[simp] theorem Plant.setGuard_guard (P : Plant) (x : Guard) : (P.setGuard x).guard = x := rfl
@[simp] theorem Plant.setGuard_fill (P : Plant) (x : Guard) : (P.setGuard x).fill = P.fill := rfl
@[simp] theorem Plant.setGuard_frost (P : Plant) (x : Guard) : (P.setGuard x).frost = P.frost := rfl
@[simp] theorem Plant.setGuard_alarms (P : Plant) (x : Guard) : (P.setGuard x).alarms = P.alarms := rfl
@[simp] theorem Plant.setGuard_telem (P : Plant) (x : Guard) : (P.setGuard x).telem = P.telem := rfl
@[simp] theorem Plant.setGuard_cut (P : Plant) (x : Guard) : (P.setGuard x).cut = P.cut := rfl

@[simp] theorem Plant.setFill_load (P : Plant) (x : Fill) : (P.setFill x).load = P.load := rfl
@[simp] theorem Plant.setFill_pumps (P : Plant) (x : Fill) : (P.setFill x).pumps = P.pumps := rfl
@[simp] theorem Plant.setFill_valves (P : Plant) (x : Fill) : (P.setFill x).valves = P.valves := rfl
@[simp] theorem Plant.setFill_guard (P : Plant) (x : Fill) : (P.setFill x).guard = P.guard := rfl
@[simp] theorem Plant.setFill_fill (P : Plant) (x : Fill) : (P.setFill x).fill = x := rfl
@[simp] theorem Plant.setFill_frost (P : Plant) (x : Fill) : (P.setFill x).frost = P.frost := rfl
@[simp] theorem Plant.setFill_alarms (P : Plant) (x : Fill) : (P.setFill x).alarms = P.alarms := rfl
@[simp] theorem Plant.setFill_telem (P : Plant) (x : Fill) : (P.setFill x).telem = P.telem := rfl
@[simp] theorem Plant.setFill_cut (P : Plant) (x : Fill) : (P.setFill x).cut = P.cut := rfl

@[simp] theorem Plant.setFrost_load (P : Plant) (x : Frost) : (P.setFrost x).load = P.load := rfl
@[simp] theorem Plant.setFrost_pumps (P : Plant) (x : Frost) : (P.setFrost x).pumps = P.pumps := rfl
@[simp] theorem Plant.setFrost_valves (P : Plant) (x : Frost) : (P.setFrost x).valves = P.valves := rfl
@[simp] theorem Plant.setFrost_guard (P : Plant) (x : Frost) : (P.setFrost x).guard = P.guard := rfl
@[simp] theorem Plant.setFrost_fill (P : Plant) (x : Frost) : (P.setFrost x).fill = P.fill := rfl
@[simp] theorem Plant.setFrost_frost (P : Plant) (x : Frost) : (P.setFrost x).frost = x := rfl
@[simp] theorem Plant.setFrost_alarms (P : Plant) (x : Frost) : (P.setFrost x).alarms = P.alarms := rfl
@[simp] theorem Plant.setFrost_telem (P : Plant) (x : Frost) : (P.setFrost x).telem = P.telem := rfl
@[simp] theorem Plant.setFrost_cut (P : Plant) (x : Frost) : (P.setFrost x).cut = P.cut := rfl

@[simp] theorem Plant.setAlarms_load (P : Plant) (x : Alarms) : (P.setAlarms x).load = P.load := rfl
@[simp] theorem Plant.setAlarms_pumps (P : Plant) (x : Alarms) : (P.setAlarms x).pumps = P.pumps := rfl
@[simp] theorem Plant.setAlarms_valves (P : Plant) (x : Alarms) : (P.setAlarms x).valves = P.valves := rfl
@[simp] theorem Plant.setAlarms_guard (P : Plant) (x : Alarms) : (P.setAlarms x).guard = P.guard := rfl
@[simp] theorem Plant.setAlarms_fill (P : Plant) (x : Alarms) : (P.setAlarms x).fill = P.fill := rfl
@[simp] theorem Plant.setAlarms_frost (P : Plant) (x : Alarms) : (P.setAlarms x).frost = P.frost := rfl
@[simp] theorem Plant.setAlarms_alarms (P : Plant) (x : Alarms) : (P.setAlarms x).alarms = x := rfl
@[simp] theorem Plant.setAlarms_telem (P : Plant) (x : Alarms) : (P.setAlarms x).telem = P.telem := rfl
@[simp] theorem Plant.setAlarms_cut (P : Plant) (x : Alarms) : (P.setAlarms x).cut = P.cut := rfl

@[simp] theorem Plant.setTelem_load (P : Plant) (x : Telem) : (P.setTelem x).load = P.load := rfl
@[simp] theorem Plant.setTelem_pumps (P : Plant) (x : Telem) : (P.setTelem x).pumps = P.pumps := rfl
@[simp] theorem Plant.setTelem_valves (P : Plant) (x : Telem) : (P.setTelem x).valves = P.valves := rfl
@[simp] theorem Plant.setTelem_guard (P : Plant) (x : Telem) : (P.setTelem x).guard = P.guard := rfl
@[simp] theorem Plant.setTelem_fill (P : Plant) (x : Telem) : (P.setTelem x).fill = P.fill := rfl
@[simp] theorem Plant.setTelem_frost (P : Plant) (x : Telem) : (P.setTelem x).frost = P.frost := rfl
@[simp] theorem Plant.setTelem_alarms (P : Plant) (x : Telem) : (P.setTelem x).alarms = P.alarms := rfl
@[simp] theorem Plant.setTelem_telem (P : Plant) (x : Telem) : (P.setTelem x).telem = x := rfl
@[simp] theorem Plant.setTelem_cut (P : Plant) (x : Telem) : (P.setTelem x).cut = P.cut := rfl

/-! ### One record of the plant -/

@[simp] theorem Plant.setPump_load (P : Plant) (p : Pump) (r : PumpRec) : (P.setPump p r).load = P.load := rfl
@[simp] theorem Plant.setPump_pumps (P : Plant) (p : Pump) (r : PumpRec) :
    (P.setPump p r).pumps = { P.pumps with recs := P.pumps.recs.set p r } := rfl
@[simp] theorem Plant.setPump_valves (P : Plant) (p : Pump) (r : PumpRec) : (P.setPump p r).valves = P.valves := rfl
@[simp] theorem Plant.setPump_guard (P : Plant) (p : Pump) (r : PumpRec) : (P.setPump p r).guard = P.guard := rfl
@[simp] theorem Plant.setPump_fill (P : Plant) (p : Pump) (r : PumpRec) : (P.setPump p r).fill = P.fill := rfl
@[simp] theorem Plant.setPump_frost (P : Plant) (p : Pump) (r : PumpRec) : (P.setPump p r).frost = P.frost := rfl
@[simp] theorem Plant.setPump_alarms (P : Plant) (p : Pump) (r : PumpRec) : (P.setPump p r).alarms = P.alarms := rfl
@[simp] theorem Plant.setPump_telem (P : Plant) (p : Pump) (r : PumpRec) : (P.setPump p r).telem = P.telem := rfl
@[simp] theorem Plant.setPump_cut (P : Plant) (p : Pump) (r : PumpRec) : (P.setPump p r).cut = P.cut := rfl

@[simp] theorem Plant.setValve_load (P : Plant) (v : ValveId) (r : Valve) : (P.setValve v r).load = P.load := rfl
@[simp] theorem Plant.setValve_pumps (P : Plant) (v : ValveId) (r : Valve) : (P.setValve v r).pumps = P.pumps := rfl
@[simp] theorem Plant.setValve_valves (P : Plant) (v : ValveId) (r : Valve) :
    (P.setValve v r).valves = P.valves.set v r := rfl
@[simp] theorem Plant.setValve_guard (P : Plant) (v : ValveId) (r : Valve) : (P.setValve v r).guard = P.guard := rfl
@[simp] theorem Plant.setValve_fill (P : Plant) (v : ValveId) (r : Valve) : (P.setValve v r).fill = P.fill := rfl
@[simp] theorem Plant.setValve_frost (P : Plant) (v : ValveId) (r : Valve) : (P.setValve v r).frost = P.frost := rfl
@[simp] theorem Plant.setValve_alarms (P : Plant) (v : ValveId) (r : Valve) : (P.setValve v r).alarms = P.alarms := rfl
@[simp] theorem Plant.setValve_telem (P : Plant) (v : ValveId) (r : Valve) : (P.setValve v r).telem = P.telem := rfl
@[simp] theorem Plant.setValve_cut (P : Plant) (v : ValveId) (r : Valve) : (P.setValve v r).cut = P.cut := rfl

@[simp] theorem Plant.setZone_load (P : Plant) (z : Zone) (r : ZoneRec) : (P.setZone z r).load = P.load := rfl
@[simp] theorem Plant.setZone_pumps (P : Plant) (z : Zone) (r : ZoneRec) : (P.setZone z r).pumps = P.pumps := rfl
@[simp] theorem Plant.setZone_valves (P : Plant) (z : Zone) (r : ZoneRec) : (P.setZone z r).valves = P.valves := rfl
@[simp] theorem Plant.setZone_guard (P : Plant) (z : Zone) (r : ZoneRec) : (P.setZone z r).guard = P.guard := rfl
@[simp] theorem Plant.setZone_fill (P : Plant) (z : Zone) (r : ZoneRec) : (P.setZone z r).fill = P.fill := rfl
@[simp] theorem Plant.setZone_frost (P : Plant) (z : Zone) (r : ZoneRec) :
    (P.setZone z r).frost = { P.frost with zones := P.frost.zones.set z r } := rfl
@[simp] theorem Plant.setZone_alarms (P : Plant) (z : Zone) (r : ZoneRec) : (P.setZone z r).alarms = P.alarms := rfl
@[simp] theorem Plant.setZone_telem (P : Plant) (z : Zone) (r : ZoneRec) : (P.setZone z r).telem = P.telem := rfl
@[simp] theorem Plant.setZone_cut (P : Plant) (z : Zone) (r : ZoneRec) : (P.setZone z r).cut = P.cut := rfl

@[simp] theorem Plant.setCore_load (P : Plant) (c : GuardCore) : (P.setCore c).load = P.load := rfl
@[simp] theorem Plant.setCore_pumps (P : Plant) (c : GuardCore) : (P.setCore c).pumps = P.pumps := rfl
@[simp] theorem Plant.setCore_valves (P : Plant) (c : GuardCore) : (P.setCore c).valves = P.valves := rfl
@[simp] theorem Plant.setCore_guard (P : Plant) (c : GuardCore) : (P.setCore c).guard = { P.guard with core := c } := rfl
@[simp] theorem Plant.setCore_fill (P : Plant) (c : GuardCore) : (P.setCore c).fill = P.fill := rfl
@[simp] theorem Plant.setCore_frost (P : Plant) (c : GuardCore) : (P.setCore c).frost = P.frost := rfl
@[simp] theorem Plant.setCore_alarms (P : Plant) (c : GuardCore) : (P.setCore c).alarms = P.alarms := rfl
@[simp] theorem Plant.setCore_telem (P : Plant) (c : GuardCore) : (P.setCore c).telem = P.telem := rfl
@[simp] theorem Plant.setCore_cut (P : Plant) (c : GuardCore) : (P.setCore c).cut = P.cut := rfl

@[simp] theorem Plant.setCirc_load (P : Plant) (c : Circ) : (P.setCirc c).load = P.load := rfl
@[simp] theorem Plant.setCirc_pumps (P : Plant) (c : Circ) : (P.setCirc c).pumps = P.pumps := rfl
@[simp] theorem Plant.setCirc_valves (P : Plant) (c : Circ) : (P.setCirc c).valves = P.valves := rfl
@[simp] theorem Plant.setCirc_guard (P : Plant) (c : Circ) : (P.setCirc c).guard = P.guard := rfl
@[simp] theorem Plant.setCirc_fill (P : Plant) (c : Circ) : (P.setCirc c).fill = P.fill := rfl
@[simp] theorem Plant.setCirc_frost (P : Plant) (c : Circ) : (P.setCirc c).frost = { P.frost with circ := c } := rfl
@[simp] theorem Plant.setCirc_alarms (P : Plant) (c : Circ) : (P.setCirc c).alarms = P.alarms := rfl
@[simp] theorem Plant.setCirc_telem (P : Plant) (c : Circ) : (P.setCirc c).telem = P.telem := rfl
@[simp] theorem Plant.setCirc_cut (P : Plant) (c : Circ) : (P.setCirc c).cut = P.cut := rfl

/-! ### A counter event, which touches the telemetry unit alone -/

@[simp] theorem Plant.event_load (P : Plant) (e : Env) (ev : CounterEvent) (n : Nat) : (P.event e ev n).load = P.load := rfl
@[simp] theorem Plant.event_pumps (P : Plant) (e : Env) (ev : CounterEvent) (n : Nat) :
    (P.event e ev n).pumps = P.pumps := rfl
@[simp] theorem Plant.event_valves (P : Plant) (e : Env) (ev : CounterEvent) (n : Nat) :
    (P.event e ev n).valves = P.valves := rfl
@[simp] theorem Plant.event_guard (P : Plant) (e : Env) (ev : CounterEvent) (n : Nat) :
    (P.event e ev n).guard = P.guard := rfl
@[simp] theorem Plant.event_fill (P : Plant) (e : Env) (ev : CounterEvent) (n : Nat) : (P.event e ev n).fill = P.fill := rfl
@[simp] theorem Plant.event_frost (P : Plant) (e : Env) (ev : CounterEvent) (n : Nat) :
    (P.event e ev n).frost = P.frost := rfl
@[simp] theorem Plant.event_alarms (P : Plant) (e : Env) (ev : CounterEvent) (n : Nat) :
    (P.event e ev n).alarms = P.alarms := rfl
@[simp] theorem Plant.event_telem (P : Plant) (e : Env) (ev : CounterEvent) (n : Nat) :
    (P.event e ev n).telem = P.telem.event e ev n := rfl
@[simp] theorem Plant.event_cut (P : Plant) (e : Env) (ev : CounterEvent) (n : Nat) : (P.event e ev n).cut = P.cut := rfl

/-! ### The state -/

@[simp] theorem State.setEnv_pending (s : State) (x : Env) : (s.setEnv x).pending = s.pending := rfl
@[simp] theorem State.setEnv_env (s : State) (x : Env) : (s.setEnv x).env = x := rfl
@[simp] theorem State.setEnv_plant (s : State) (x : Env) : (s.setEnv x).plant = s.plant := rfl
@[simp] theorem State.setEnv_link (s : State) (x : Env) : (s.setEnv x).link = s.link := rfl

@[simp] theorem State.setPlant_pending (s : State) (x : Plant) : (s.setPlant x).pending = s.pending := rfl
@[simp] theorem State.setPlant_env (s : State) (x : Plant) : (s.setPlant x).env = s.env := rfl
@[simp] theorem State.setPlant_plant (s : State) (x : Plant) : (s.setPlant x).plant = x := rfl
@[simp] theorem State.setPlant_link (s : State) (x : Plant) : (s.setPlant x).link = s.link := rfl

@[simp] theorem State.setLink_pending (s : State) (x : Link) : (s.setLink x).pending = s.pending := rfl
@[simp] theorem State.setLink_env (s : State) (x : Link) : (s.setLink x).env = s.env := rfl
@[simp] theorem State.setLink_plant (s : State) (x : Link) : (s.setLink x).plant = s.plant := rfl
@[simp] theorem State.setLink_link (s : State) (x : Link) : (s.setLink x).link = x := rfl

@[simp] theorem State.setCfg_pending (s : State) (x : Working) : (s.setCfg x).pending = s.pending := rfl
@[simp] theorem State.setCfg_plant (s : State) (x : Working) : (s.setCfg x).plant = s.plant := rfl
@[simp] theorem State.setCfg_link (s : State) (x : Working) : (s.setCfg x).link = s.link := rfl
@[simp] theorem State.setCfg_env_cfg (s : State) (x : Working) : (s.setCfg x).env.cfg = x := rfl
@[simp] theorem State.setCfg_env_level (s : State) (x : Working) : (s.setCfg x).env.level = s.env.level := rfl
@[simp] theorem State.setCfg_env_clock (s : State) (x : Working) : (s.setCfg x).env.clock = s.env.clock := rfl
@[simp] theorem State.setCfg_env_sys (s : State) (x : Working) : (s.setCfg x).env.sys = s.env.sys := rfl
@[simp] theorem State.setCfg_env_pins (s : State) (x : Working) : (s.setCfg x).env.pins = s.env.pins := rfl

@[simp] theorem State.setLevel_pending (s : State) (x : Level) : (s.setLevel x).pending = s.pending := rfl
@[simp] theorem State.setLevel_plant (s : State) (x : Level) : (s.setLevel x).plant = s.plant := rfl
@[simp] theorem State.setLevel_link (s : State) (x : Level) : (s.setLevel x).link = s.link := rfl
@[simp] theorem State.setLevel_env_cfg (s : State) (x : Level) : (s.setLevel x).env.cfg = s.env.cfg := rfl
@[simp] theorem State.setLevel_env_level (s : State) (x : Level) : (s.setLevel x).env.level = x := rfl
@[simp] theorem State.setLevel_env_clock (s : State) (x : Level) : (s.setLevel x).env.clock = s.env.clock := rfl
@[simp] theorem State.setLevel_env_sys (s : State) (x : Level) : (s.setLevel x).env.sys = s.env.sys := rfl
@[simp] theorem State.setLevel_env_pins (s : State) (x : Level) : (s.setLevel x).env.pins = s.env.pins := rfl

@[simp] theorem State.setClock_pending (s : State) (x : Clock) : (s.setClock x).pending = s.pending := rfl
@[simp] theorem State.setClock_plant (s : State) (x : Clock) : (s.setClock x).plant = s.plant := rfl
@[simp] theorem State.setClock_link (s : State) (x : Clock) : (s.setClock x).link = s.link := rfl
@[simp] theorem State.setClock_env_cfg (s : State) (x : Clock) : (s.setClock x).env.cfg = s.env.cfg := rfl
@[simp] theorem State.setClock_env_level (s : State) (x : Clock) : (s.setClock x).env.level = s.env.level := rfl
@[simp] theorem State.setClock_env_clock (s : State) (x : Clock) : (s.setClock x).env.clock = x := rfl
@[simp] theorem State.setClock_env_sys (s : State) (x : Clock) : (s.setClock x).env.sys = s.env.sys := rfl
@[simp] theorem State.setClock_env_pins (s : State) (x : Clock) : (s.setClock x).env.pins = s.env.pins := rfl

@[simp] theorem State.setSys_pending (s : State) (x : Sys) : (s.setSys x).pending = s.pending := rfl
@[simp] theorem State.setSys_plant (s : State) (x : Sys) : (s.setSys x).plant = s.plant := rfl
@[simp] theorem State.setSys_link (s : State) (x : Sys) : (s.setSys x).link = s.link := rfl
@[simp] theorem State.setSys_env_cfg (s : State) (x : Sys) : (s.setSys x).env.cfg = s.env.cfg := rfl
@[simp] theorem State.setSys_env_level (s : State) (x : Sys) : (s.setSys x).env.level = s.env.level := rfl
@[simp] theorem State.setSys_env_clock (s : State) (x : Sys) : (s.setSys x).env.clock = s.env.clock := rfl
@[simp] theorem State.setSys_env_sys (s : State) (x : Sys) : (s.setSys x).env.sys = x := rfl
@[simp] theorem State.setSys_env_pins (s : State) (x : Sys) : (s.setSys x).env.pins = s.env.pins := rfl

@[simp] theorem State.setPins_pending (s : State) (x : Pins) : (s.setPins x).pending = s.pending := rfl
@[simp] theorem State.setPins_plant (s : State) (x : Pins) : (s.setPins x).plant = s.plant := rfl
@[simp] theorem State.setPins_link (s : State) (x : Pins) : (s.setPins x).link = s.link := rfl
@[simp] theorem State.setPins_env_cfg (s : State) (x : Pins) : (s.setPins x).env.cfg = s.env.cfg := rfl
@[simp] theorem State.setPins_env_level (s : State) (x : Pins) : (s.setPins x).env.level = s.env.level := rfl
@[simp] theorem State.setPins_env_clock (s : State) (x : Pins) : (s.setPins x).env.clock = s.env.clock := rfl
@[simp] theorem State.setPins_env_sys (s : State) (x : Pins) : (s.setPins x).env.sys = s.env.sys := rfl
@[simp] theorem State.setPins_env_pins (s : State) (x : Pins) : (s.setPins x).env.pins = x := rfl

/-! ### Hand-overs, which touch the plant alone -/

@[simp] theorem State.settle_pending (s : State) (gs : List Sig) : (s.settle gs).pending = s.pending := rfl
@[simp] theorem State.settle_env (s : State) (gs : List Sig) : (s.settle gs).env = s.env := rfl
@[simp] theorem State.settle_link (s : State) (gs : List Sig) : (s.settle gs).link = s.link := rfl
@[simp] theorem State.settle_plant (s : State) (gs : List Sig) :
    (s.settle gs).plant = Machine.settle s.env Config.cascadeBound gs s.plant := rfl

@[simp] theorem State.act_pending (s : State) (x : Plant × List Sig) : (s.act x).pending = s.pending := rfl
@[simp] theorem State.act_env (s : State) (x : Plant × List Sig) : (s.act x).env = s.env := rfl
@[simp] theorem State.act_link (s : State) (x : Plant × List Sig) : (s.act x).link = s.link := rfl
@[simp] theorem State.act_plant (s : State) (x : Plant × List Sig) :
    (s.act x).plant = Machine.settle s.env Config.cascadeBound x.2 x.1 := rfl

/-! ### A reply placed in the slot -/

@[simp] theorem State.reply_pending (s : State) (kind tag : Byte) (a : Answer) :
    (s.reply kind tag a).pending = s.pending := rfl
@[simp] theorem State.reply_env (s : State) (kind tag : Byte) (a : Answer) : (s.reply kind tag a).env = s.env := rfl
@[simp] theorem State.reply_plant (s : State) (kind tag : Byte) (a : Answer) : (s.reply kind tag a).plant = s.plant := rfl

end Sys2Proof.Machine
end

