-- ==== Sys2Proof/Laws/Ops.lean ====
section
/-! SUPPORT. What the named operations over one record of several do: reading after writing, and the lists of all. -/

namespace Sys2Proof.Machine

/-! ### Reading a record after writing one -/

@[simp] theorem PerPump.get_set_same {α : Type} (t : PerPump α) (p : Pump) (x : α) : (t.set p x).get p = x := by
  cases p <;> rfl

@[simp] theorem PerPump.get_set_ne {α : Type} (t : PerPump α) {p q : Pump} (x : α) (h : q ≠ p) :
    (t.set p x).get q = t.get q := by
  cases p <;> cases q <;> first | rfl | exact absurd rfl h

theorem PerPump.get_set {α : Type} (t : PerPump α) (p q : Pump) (x : α) :
    (t.set p x).get q = if q = p then x else t.get q := by
  by_cases h : q = p
  · simp [h]
  · simp [h]

@[simp] theorem PerPump.set_get {α : Type} (t : PerPump α) (p : Pump) : t.set p (t.get p) = t := by cases p <;> rfl

@[simp] theorem PerPump.get_map {α β : Type} (f : α → β) (t : PerPump α) (p : Pump) : (t.map f).get p = f (t.get p) := by
  cases p <;> rfl

theorem PerPump.ext_get {α : Type} {t u : PerPump α} (h : ∀ p, t.get p = u.get p) : t = u := by
  have h1 : t.p1 = u.p1 := h .p1
  have h2 : t.p2 = u.p2 := h .p2
  have h3 : t.p3 = u.p3 := h .p3
  cases t; cases u; simp_all

@[simp] theorem PerZone.get_set_same {α : Type} (t : PerZone α) (z : Zone) (x : α) : (t.set z x).get z = x := by
  cases z <;> rfl

@[simp] theorem PerZone.get_set_ne {α : Type} (t : PerZone α) {z y : Zone} (x : α) (h : y ≠ z) :
    (t.set z x).get y = t.get y := by
  cases z <;> cases y <;> first | rfl | exact absurd rfl h

theorem PerZone.get_set {α : Type} (t : PerZone α) (z y : Zone) (x : α) :
    (t.set z x).get y = if y = z then x else t.get y := by
  by_cases h : y = z
  · simp [h]
  · simp [h]

@[simp] theorem PerZone.set_get {α : Type} (t : PerZone α) (z : Zone) : t.set z (t.get z) = t := by cases z <;> rfl

@[simp] theorem PerZone.get_map {α β : Type} (f : α → β) (t : PerZone α) (z : Zone) : (t.map f).get z = f (t.get z) := by
  cases z <;> rfl

@[simp] theorem PerCounter.get_set_same {α : Type} (t : PerCounter α) (c : CounterId) (x : α) : (t.set c x).get c = x := by
  cases c <;> rfl

@[simp] theorem PerCounter.get_set_ne {α : Type} (t : PerCounter α) {c d : CounterId} (x : α) (h : d ≠ c) :
    (t.set c x).get d = t.get d := by
  cases c <;> cases d <;> first | rfl | exact absurd rfl h

@[simp] theorem Valves.get_set_same (t : Valves) (v : ValveId) (r : Valve) : (t.set v r).get v = r := by cases v <;> rfl

@[simp] theorem Valves.get_set_ne (t : Valves) {v w : ValveId} (r : Valve) (h : w ≠ v) : (t.set v r).get w = t.get w := by
  cases v <;> cases w <;> first | rfl | exact absurd rfl h

@[simp] theorem Valves.set_set (t : Valves) (v : ValveId) (r r' : Valve) : (t.set v r).set v r' = t.set v r' := by
  cases v <;> rfl

@[simp] theorem Valves.set_get (t : Valves) (v : ValveId) : t.set v (t.get v) = t := by cases v <;> rfl

@[simp] theorem LoadTable.claim_put_same (t : LoadTable) (l : Load) (k : Claim) : (t.put l k).claim l = k := by
  cases l <;> simp [LoadTable.put, LoadTable.claim]

@[simp] theorem LoadTable.claim_put_ne (t : LoadTable) {l m : Load} (k : Claim) (h : m ≠ l) :
    (t.put l k).claim m = t.claim m := by
  cases l <;> cases m <;> simp_all [LoadTable.put, LoadTable.claim]

@[simp] theorem LoadTable.put_cap (t : LoadTable) (l : Load) (k : Claim) : (t.put l k).cap = t.cap := by cases l <;> rfl
@[simp] theorem LoadTable.put_capCheap (t : LoadTable) (l : Load) (k : Claim) : (t.put l k).capCheap = t.capCheap := by
  cases l <;> rfl
@[simp] theorem LoadTable.put_claimCounter (t : LoadTable) (l : Load) (k : Claim) :
    (t.put l k).claimCounter = t.claimCounter := by cases l <;> rfl
@[simp] theorem LoadTable.put_grantCounter (t : LoadTable) (l : Load) (k : Claim) :
    (t.put l k).grantCounter = t.grantCounter := by cases l <;> rfl

/-! ### The lists of all -/

@[simp] theorem mem_allPumps (p : Pump) : p ∈ allPumps := by cases p <;> decide
@[simp] theorem mem_allZones (z : Zone) : z ∈ allZones := by cases z <;> decide
@[simp] theorem mem_allCounters (c : CounterId) : c ∈ allCounters := by cases c <;> decide
@[simp] theorem mem_allLoads (l : Load) : l ∈ allLoads := by
  cases l with
  | pump p => cases p <;> decide
  | zone z => cases z <;> decide
@[simp] theorem mem_allAlarms (k : AlarmKind) : k ∈ allAlarms := by cases k <;> decide

/-! ### Ordering by a number -/

@[simp] theorem mem_insertBy {α : Type} (key : α → Nat) (x y : α) (l : List α) :
    y ∈ insertBy key x l ↔ y = x ∨ y ∈ l := by
  induction l with
  | nil => simp [insertBy]
  | cons z zs ih =>
    unfold insertBy
    split
    · simp
    · simp [ih, or_left_comm]

@[simp] theorem mem_sortBy {α : Type} (key : α → Nat) (y : α) (l : List α) : y ∈ sortBy key l ↔ y ∈ l := by
  induction l with
  | nil => simp [sortBy]
  | cons z zs ih => simp [sortBy, ih]

theorem length_insertBy {α : Type} (key : α → Nat) (x : α) (l : List α) : (insertBy key x l).length = l.length + 1 := by
  induction l with
  | nil => rfl
  | cons z zs ih =>
    unfold insertBy
    split
    · rfl
    · simp [ih]

@[simp] theorem length_sortBy {α : Type} (key : α → Nat) (l : List α) : (sortBy key l).length = l.length := by
  induction l with
  | nil => rfl
  | cons z zs ih => simp [sortBy, length_insertBy, ih]

/-- A sorted list rises in the key. -/
theorem pairwise_insertBy {α : Type} (key : α → Nat) (x : α) (l : List α)
    (h : l.Pairwise fun a b => key a ≤ key b) : (insertBy key x l).Pairwise fun a b => key a ≤ key b := by
  induction l with
  | nil => simp [insertBy]
  | cons z zs ih =>
    rw [List.pairwise_cons] at h
    unfold insertBy
    split
    · rename_i hx
      refine List.pairwise_cons.mpr ⟨?_, List.pairwise_cons.mpr h⟩
      intro y hy
      rcases List.mem_cons.mp hy with rfl | hy
      · exact hx
      · exact Nat.le_trans hx (h.1 y hy)
    · rename_i hx
      refine List.pairwise_cons.mpr ⟨?_, ih h.2⟩
      intro y hy
      rcases (mem_insertBy key x y zs).mp hy with rfl | hy
      · omega
      · exact h.1 y hy

theorem pairwise_sortBy {α : Type} (key : α → Nat) (l : List α) : (sortBy key l).Pairwise fun a b => key a ≤ key b := by
  induction l with
  | nil => simp [sortBy]
  | cons z zs ih => exact pairwise_insertBy key z _ ih

/-! ### Counting that stops at a top -/

theorem satAdd_eq_min (top c n : Nat) : satAdd top c n = min top (c + n) := by
  unfold satAdd
  split <;> omega

/-! ### The outputs of a valve (R89, R90) -/

theorem Valve.stepOutput_iff (e : Env) (r : Valve) : r.stepOutput e = true ↔ r.inMotion = true ∧ e.sys.mode ≠ .commission := by
  simp [Valve.stepOutput]

theorem Valve.stepOutput_commission {e : Env} (h : e.sys.mode = .commission) (r : Valve) : r.stepOutput e = false := by
  simp [Valve.stepOutput, h]

theorem Valve.directionOutput_commission {e : Env} (h : e.sys.mode = .commission) (r : Valve) : r.directionOutput e = none := by
  simp [Valve.directionOutput, Valve.stepOutput_commission h]

theorem Valve.stepped_driven {e : Env} {r : Valve} (k : EndStop) (h : r.stepOutput e = true) :
    r.stepped e k = { r.firstRead k.before with endStop := k.after } := by
  simp [Valve.stepped, h]

theorem Valve.stepped_commission {e : Env} (h : e.sys.mode = .commission) (r : Valve) (k : EndStop) :
    r.stepped e k = { r.firstRead r.simStop with stem := (r.firstRead r.simStop).stemAfter } := by
  simp [Valve.stepped, Valve.stepOutput_commission h]

@[simp] theorem Valve.firstRead_inMotion (k : Contact) (r : Valve) : (r.firstRead k).inMotion = r.inMotion := by
  unfold Valve.firstRead
  split
  · split <;> simp_all [Valve.inMotion]
  · rfl

end Sys2Proof.Machine
end

