-- ==== Sys2Proof/Laws/Bytes.lean ====
section
/-! SUPPORT. Numbers written as bytes and read back (R181 a). -/

namespace Sys2Proof.Machine

theorem number_foldl (bs : List Byte) (n : Nat) :
    bs.foldl (fun n b => n * 256 + b.toNat) n = n * 256 ^ bs.length + number bs := by
  induction bs generalizing n with
  | nil => simp [number]
  | cons b bs ih =>
    simp only [List.foldl_cons, number, List.length_cons]
    rw [ih, ih (0 * 256 + b.toNat)]
    rw [Nat.pow_succ, Nat.add_mul, Nat.zero_mul, Nat.zero_add, Nat.mul_assoc, Nat.mul_comm 256, Nat.add_assoc]

/-- The check joins the bytes one after another. -/
theorem crcFrom_eq_foldl (bs : List Byte) (c : BitVec 16) : crcFrom bs c = bs.foldl crcByte c := by
  induction bs generalizing c with
  | nil => rfl
  | cons b bs ih =>
    rw [crcFrom]
    split
    · rename_i h
      rw [ih, List.foldl_cons, show crcByte c b = 0 from BitVec.eq_of_toNat_eq h]
    · rename_i n h
      rw [ih, List.foldl_cons, show n + 1 = (crcByte c b).toNat from h.symm, BitVec.ofNat_toNat, BitVec.setWidth_eq]

theorem crc_eq_foldl (bs : List Byte) : crc bs = bs.foldl crcByte 0xFFFF := crcFrom_eq_foldl bs _

@[simp] theorem length_u8 (n : Nat) : (u8 n).length = 1 := rfl
@[simp] theorem length_u16 (n : Nat) : (u16 n).length = 2 := rfl
@[simp] theorem length_u32 (n : Nat) : (u32 n).length = 4 := rfl

theorem number_u8 (n : Nat) : number (u8 n) = n % 256 := by
  simp [number, u8]

theorem number_u16 (n : Nat) : number (u16 n) = n % 65536 := by
  simp [number, u16]
  omega

theorem number_u32 (n : Nat) : number (u32 n) = n % 4294967296 := by
  simp [number, u32, u16]
  omega

/-- A field read where its bytes stand. -/
theorem field_of_append (pre mid post : List Byte) (a n : Nat) (ha : a = pre.length) (hn : n = mid.length) :
    field (pre ++ (mid ++ post)) a n = number mid := by
  subst ha hn
  simp [field]

theorem field_zero_of_append (mid post : List Byte) (n : Nat) (hn : n = mid.length) :
    field (mid ++ post) 0 n = number mid := by
  subst hn
  simp [field]

@[simp] theorem residue16_cast (n : Nat) (h : n < 65536) : residue16 (n : Int) = n := by
  unfold residue16
  omega

theorem signed16_residue16 (i : Int) (h1 : -32768 ≤ i) (h2 : i < 32768) : signed16 (residue16 i) = i := by
  unfold signed16 residue16
  split <;> omega

theorem signed32_residue32 (i : Int) (h1 : -2147483648 ≤ i) (h2 : i < 2147483648) : signed32 (residue32 i) = i := by
  unfold signed32 residue32
  split <;> omega

/-- A body that ends in a reserved byte of 0 and has its length is well formed (R181 f). -/
theorem wellFormedBody_append_zero (b : List Byte) (n : Nat) (h : n = b.length + 1) :
    wellFormedBody n (b ++ [0]) = true := by
  subst h
  simp [wellFormedBody]

theorem wellFormedBody_of_length_ne (n : Nat) (b : List Byte) (h : b.length ≠ n) : wellFormedBody n b = false := by
  simp [wellFormedBody, h]

end Sys2Proof.Machine
end

