-- ==== Sys2Proof/Laws/Cascade.lean ====
section
/-! SUPPORT. The carrying out of hand-overs: what a chain does is what its links do, one after another. -/

namespace Sys2Proof.Machine

@[simp] theorem settleFrom_nil (e : Env) (n : Nat) (b : Option BoostEnd) (P : Plant) : settleFrom e n b [] P = P := by
  cases n <;> rfl

@[simp] theorem settle_nil (e : Env) (n : Nat) (P : Plant) : settle e n [] P = P := settleFrom_nil e n none P

/-- One hand-over carried out before the rest. -/
theorem settleFrom_cons (e : Env) (n : Nat) (b : Option BoostEnd) (g : Sig) (gs : List Sig) (P : Plant) :
    settleFrom e (n + 1) b (g :: gs) P =
      settleFrom e n (g.endSeen b) ((handle (g.informed b) e P).2 ++ gs) (handle (g.informed b) e P).1 := rfl

/-- A hand-over that is no PLAN notice is carried out as it stands, and brings the end of no boost. -/
theorem Sig.informed_eq (b : Option BoostEnd) (g : Sig) (h : ∀ x, g ≠ .planNotice x) : g.informed b = g ∧ g.endSeen b = b := by
  cases g <;> first | exact ⟨rfl, rfl⟩ | exact absurd rfl (h _)

@[simp] theorem Sig.informed_none (g : Sig) : g.informed none = g := by
  cases g <;> try rfl
  rename_i x; cases x <;> rfl

/-- The first hand-over of an event, no boost having ended. -/
theorem settle_cons (e : Env) (n : Nat) (g : Sig) (gs : List Sig) (P : Plant) :
    settle e (n + 1) (g :: gs) P = settleFrom e n (g.endSeen none) ((handle g e P).2 ++ gs) (handle g e P).1 := by
  rw [settle, settleFrom_cons, Sig.informed_none]

/-- A property that every hand-over keeps, and that the mark of a cut chain does not touch, is kept by a whole chain. -/
theorem settleFrom_keeps (e : Env) (p : Plant → Prop) (hc : ∀ P, p P → p { P with cut := true })
    (hh : ∀ g P, p P → p (handle g e P).1) (n : Nat) (b : Option BoostEnd) (gs : List Sig) (P : Plant) (h : p P) :
    p (settleFrom e n b gs P) := by
  induction n generalizing b gs P with
  | zero => cases gs with
    | nil => exact h
    | cons g gs => exact hc P h
  | succ n ih => cases gs with
    | nil => exact h
    | cons g gs => exact ih _ _ _ (hh _ P h)

theorem settle_keeps (e : Env) (p : Plant → Prop) (hc : ∀ P, p P → p { P with cut := true })
    (hh : ∀ g P, p P → p (handle g e P).1) (n : Nat) (gs : List Sig) (P : Plant) (h : p P) : p (settle e n gs P) :=
  settleFrom_keeps e p hc hh n none gs P h

/-- A claim about the hand-overs still to come together with the plant they find: kept by every hand-over, it holds, once none
is left, of the plant alone; a chain that is cut is marked. -/
theorem settleFrom_runs (e : Env) (p : List Sig → Plant → Prop)
    (hh : ∀ b g gs P, p (g :: gs) P → p ((handle (Sig.informed b g) e P).2 ++ gs) (handle (Sig.informed b g) e P).1)
    (n : Nat) (b : Option BoostEnd) (gs : List Sig) (P : Plant) (h : p gs P) :
    (settleFrom e n b gs P).cut = true ∨ p [] (settleFrom e n b gs P) := by
  induction n generalizing b gs P with
  | zero => cases gs with
    | nil => exact .inr h
    | cons g gs => exact .inl rfl
  | succ n ih => cases gs with
    | nil => exact .inr h
    | cons g gs => exact ih _ _ _ (hh b g gs P h)

/-- The same for the hand-overs of a class that only hands on hand-overs of that class. -/
theorem settleFrom_keeps_of (e : Env) (p : Plant → Prop) (q : Sig → Prop) (hc : ∀ P, p P → p { P with cut := true })
    (hb : ∀ g b, q g → q (Sig.informed b g))
    (hh : ∀ g P, q g → p P → p (handle g e P).1 ∧ ∀ g' ∈ (handle g e P).2, q g') (n : Nat) (b : Option BoostEnd)
    (gs : List Sig) (P : Plant) (hq : ∀ g ∈ gs, q g) (h : p P) : p (settleFrom e n b gs P) := by
  induction n generalizing b gs P with
  | zero => cases gs with
    | nil => exact h
    | cons g gs => exact hc P h
  | succ n ih => cases gs with
    | nil => exact h
    | cons g gs =>
      have hg := hh _ P (hb g b (hq g (by simp))) h
      refine ih _ _ _ ?_ hg.1
      intro g' hg'
      rcases List.mem_append.mp hg' with h1 | h1
      · exact hg.2 g' h1
      · exact hq g' (by simp [h1])

/-- A quantity that no hand-over changes stands through a whole chain. -/
theorem settle_const {α : Type} (e : Env) (f : Plant → α) (hc : ∀ P, f { P with cut := true } = f P)
    (hh : ∀ g P, f (handle g e P).1 = f P) (n : Nat) (gs : List Sig) (P : Plant) : f (settle e n gs P) = f P :=
  settle_keeps e (fun Q => f Q = f P) (fun Q h => (hc Q).trans h) (fun g Q h => (hh g Q).trans h) n gs P rfl

/-- A chain whose first hand-over, no PLAN notice, hands nothing on. -/
theorem settleFrom_cons_of_quiet (e : Env) (n : Nat) (b : Option BoostEnd) (g : Sig) (gs : List Sig) (P P' : Plant)
    (hg : ∀ x, g ≠ .planNotice x) (h : handle g e P = (P', [])) :
    settleFrom e (n + 1) b (g :: gs) P = settleFrom e n b gs P' := by
  rw [settleFrom_cons, (Sig.informed_eq b g hg).1, (Sig.informed_eq b g hg).2, h]; rfl

/-- The hand-overs of an event on the state: the environment, the link and the queue stand. -/
theorem State.act_eq (s : State) (x : Plant × List Sig) :
    s.act x = { s with plant := Machine.settle s.env Config.cascadeBound x.2 x.1 } := rfl

theorem State.settle_eq (s : State) (gs : List Sig) :
    s.settle gs = { s with plant := Machine.settle s.env Config.cascadeBound gs s.plant } := rfl

/-- An action that hands nothing on. -/
theorem State.act_nil (s : State) (P : Plant) : s.act (P, []) = { s with plant := P } := rfl

/-- A settled guard takes an evaluation as nothing. -/
theorem handleGuardEval_of_settled (e : Env) (P : Plant)
    (h : chooseGuard e P.guard.core = (P.guard.core.state, P.guard.core.reason)) : handleGuardEval e P = (P, []) := by
  unfold handleGuardEval
  simp [h]

/-- A fast mark that stands as it is tested takes its test as nothing. -/
theorem handleFastTest_of_settled (e : Env) (P : Plant) (h : P.guard.core.fast = fastHolds e P) :
    handleFastTest e P = (P, []) := by
  unfold handleFastTest
  rw [← h]
  rfl

@[simp] theorem ownersTake_nil (e : Env) (P : Plant) : ownersTake e [] P = (P, []) := rfl

/-- A property that the owner's part of every grant and revocation keeps is kept by the owners' part of a whole walk or cap
lowering, and a property of every hand-over they make holds of all of them. -/
theorem ownersTake_keeps (e : Env) (p : Plant → Prop) (q : Sig → Prop)
    (hh : ∀ a P, p P → p (ownerTakes e a P).1 ∧ ∀ g ∈ (ownerTakes e a P).2, q g) (as : List Award) (P : Plant) (h : p P) :
    p (ownersTake e as P).1 ∧ ∀ g ∈ (ownersTake e as P).2, q g := by
  induction as generalizing P with
  | nil => exact ⟨h, fun _ hg => absurd hg List.not_mem_nil⟩
  | cons a as ih =>
    have ha := hh a P h
    have hr := ih _ ha.1
    exact ⟨hr.1, fun g hg => (List.mem_append.mp hg).elim (ha.2 g) (hr.2 g)⟩

/-! ### A guard change handed on -/

/-- Putting a zone into frost boost changes the frost unit's records alone. -/
theorem boostZone_frost (e : Env) (z : Zone) (P : Plant) :
    (boostZone e z P).1 = { P with frost := (boostZone e z P).1.frost } := by
  unfold boostZone
  split <;> rfl

/-- A refusal of circulation changes the frost unit's records alone. -/
theorem handleCircRefuse_frost (r : Refused) (e : Env) (P : Plant) :
    (handleCircRefuse r e P).1 = { P with frost := (handleCircRefuse r e P).1.frost } := by
  simp only [handleCircRefuse]
  rw [boostZone_frost e .z2, boostZone_frost e .z1]
  rfl

/-- Where circulation ends at a guard change, nothing but the frost unit's records changes. -/
theorem circGuardEnd_frost (e : Env) (P : Plant) : (circGuardEnd e P).1 = { P with frost := (circGuardEnd e P).1.frost } := by
  unfold circGuardEnd
  split
  · exact handleCircRefuse_frost _ e P
  · rfl

/-- All that handing a guard change on changes at once: the frost unit's records, and the notice queue. -/
theorem guardHanded_eq (e : Env) (P : Plant) : (guardHanded e P).1 =
    { P with frost := (guardHanded e P).1.frost, telem := P.telem.queueNotice ⟨.status, 0, statusBody .guard e P⟩ } := by
  unfold guardHanded
  rw [circGuardEnd_frost]
  rfl

/-- Taking a limit changes the limit alone. -/
theorem handleLimit_eq (l : Limit) (P : Plant) : (handleLimit l P).1 = P.setPumps { P.pumps with limit := l } := by
  unfold handleLimit
  split
  · rename_i h; subst h; rfl
  · rfl

/-- A guard evaluation changes the guard, the limit, the frost unit's records and the notice queue at once; the rest is handed on. -/
theorem handleGuardEval_leaves (e : Env) (P : Plant) :
    let Q := (handleGuardEval e P).1
    Q.pumps = { P.pumps with limit := Q.pumps.limit } ∧ Q.valves = P.valves ∧ Q.load = P.load ∧ Q.fill = P.fill ∧
      Q.alarms = P.alarms ∧ Q.cut = P.cut := by
  simp only [handleGuardEval]
  split
  · exact ⟨rfl, rfl, rfl, rfl, rfl, rfl⟩
  · simp only [handleLimit_eq]
    rw [guardHanded_eq]
    exact ⟨rfl, rfl, rfl, rfl, rfl, rfl⟩

/-! ### Alarms and boosts -/

/-- A change of an alarm record changes the alarm table and the telemetry unit alone. -/
theorem changeAlarm_leaves (e : Env) (P : Plant) (k : AlarmKind) (new : AlarmState) :
    changeAlarm e P k new =
      { P with alarms := (changeAlarm e P k new).alarms, telem := (changeAlarm e P k new).telem } := by
  unfold changeAlarm
  dsimp only
  split <;> rfl

/-- An appearance or a going hands nothing on, and changes the alarm table and the telemetry unit alone. -/
theorem handleCond_leaves (k : AlarmKind) (b : Bool) (e : Env) (P : Plant) :
    (handleCond k b e P).2 = [] ∧
      (handleCond k b e P).1 = { P with alarms := (handleCond k b e P).1.alarms, telem := (handleCond k b e P).1.telem } := by
  refine ⟨rfl, ?_⟩
  simp only [handleCond]
  cases b <;> simp only [reduceIte, Bool.false_eq_true] <;> split <;> first | rfl | exact changeAlarm_leaves e P k _

/-- A publication ends no boost where none is active, and leaves the plant in any case: the end is handed on. -/
theorem handleBoostTest_cases (e : Env) (P : Plant) :
    handleBoostTest e P = (P, []) ∨ ∃ b r, P.fill.boost = some b ∧ handleBoostTest e P = (P, [.endBoost r]) := by
  unfold handleBoostTest
  cases hb : P.fill.boost with
  | none => exact .inl rfl
  | some b =>
    cases hr : boostEndAt e (some b) with
    | none => exact .inl rfl
    | some r => exact .inr ⟨b, r, rfl, rfl⟩

/-- The end of a boost: no boost, its end, boost k = 0, then a call evaluation and a PLAN notice; nothing where none is active. -/
theorem handleEndBoost_cases (r : BoostEnd) (P : Plant) :
    (P.fill.boost = none ∧ handleEndBoost r P = (P, [])) ∨
      (P.fill.boost.isSome ∧ handleEndBoost r P =
        ({ P with fill := { P.fill with boost := none, boostEnd := some r }, pumps := { P.pumps with boostK := 0 } },
          [.callEval, .planNotice (some r)])) := by
  unfold handleEndBoost
  cases hb : P.fill.boost with
  | none => exact .inl ⟨rfl, rfl⟩
  | some b => exact .inr ⟨rfl, rfl⟩

end Sys2Proof.Machine
end

