-- ==== Sys2Proof/Laws/Request.lean ====
section
/-! SUPPORT. What the generic handling of a request does, once for all requests (R177): the cases of `submit` and `carryOut`. -/

namespace Sys2Proof.Machine

/-- A reply placed in the slot changes the link alone. -/
theorem State.reply_eq (s : State) (kind tag : Byte) (a : Answer) :
    s.reply kind tag a = { s with link := repliedLink s (replyTo s kind tag a.code a.content a.after) } := rfl

/-- Everything `carryOut` can do: tag 0 is refused, a long operation at the DONE limit is answered BUSY, any other request is
answered by its block. -/
theorem carryOut_cases (kind tag : Byte) (answer : State → State × Answer) (s : State) :
    (tag = 0 ∧ carryOut kind tag answer s =
        { s with link := repliedLink s (replyTo s kind tag .form [] .nothing) }) ∨
    (tag ≠ 0 ∧ isLong kind = true ∧ 4 ≤ doneLoad s.env.sys s.plant ∧ carryOut kind tag answer s =
        { s with link := repliedLink s (replyTo s kind tag .busy [] .nothing) }) ∨
    (tag ≠ 0 ∧ (isLong kind = true → doneLoad s.env.sys s.plant < 4) ∧
      carryOut kind tag answer s = (answer s).1.reply kind tag (answer s).2) := by
  unfold carryOut
  by_cases ht : tag = 0
  · left; subst ht; exact ⟨rfl, rfl⟩
  · right
    rw [if_neg ht]
    by_cases hl : isLong kind = true ∧ 4 ≤ doneLoad s.env.sys s.plant
    · left; refine ⟨ht, hl.1, hl.2, ?_⟩
      rw [if_pos (by simp [hl.1, Config.doneLimit, hl.2])]; rfl
    · right; refine ⟨ht, fun h => Nat.lt_of_not_le fun h' => hl ⟨h, h'⟩, ?_⟩
      have hn : ¬ (isLong kind && Config.doneLimit ≤ doneLoad s.env.sys s.plant) = true := by
        rw [Bool.and_eq_true, decide_eq_true_eq]
        exact hl
      rw [if_neg hn]

/-- A request of a kind that is no long operation, with a tag, is answered by its block. -/
theorem submit_answered (kind tag : Byte) (body : List Byte) (answer : State → State × Answer) (s : State)
    (hc : s.clearToAnswer = true) (ht : tag ≠ 0) (hl : isLong kind = false) :
    submit kind tag body answer s = .next ((answer s).1.reply kind tag (answer s).2) := by
  unfold submit carryOut
  rw [if_pos hc, if_neg ht, if_neg (by simp [hl])]

/-- A long operation under the DONE limit is answered by its block (R167). -/
theorem submit_long (kind tag : Byte) (body : List Byte) (answer : State → State × Answer) (s : State)
    (hc : s.clearToAnswer = true) (ht : tag ≠ 0) (hd : doneLoad s.env.sys s.plant < 4) :
    submit kind tag body answer s = .next ((answer s).1.reply kind tag (answer s).2) := by
  unfold submit carryOut
  have hd' : ¬ Config.doneLimit ≤ doneLoad s.env.sys s.plant := Nat.not_le.mpr hd
  rw [if_pos hc, if_neg ht, if_neg (by simp [hd'])]

/-- A request that finds something before it waits its turn (R177). -/
theorem submit_waits (kind tag : Byte) (body : List Byte) (answer : State → State × Answer) (s : State)
    (hc : s.clearToAnswer = false) : submit kind tag body answer s = .next (s.enqueue ⟨kind, tag, body⟩) := by
  unfold submit
  simp [hc]

/-- A command that carries a request is its submission with some answer. -/
theorem exec_request (c : Instr) (r : Request) (s : State) (h : requestOf c = some r) :
    ∃ answer, exec c s = submit r.kind r.tag r.body answer s ∧ answerByKind r.kind r.tag r.body = some answer := by
  cases c <;> simp only [requestOf, Option.some.injEq, reduceCtorEq] at h <;> subst h <;> exact ⟨_, rfl, rfl⟩

/-- A READ request with an empty body answers OK and changes nothing. -/
theorem readRequest_nil (content : State → List Byte) (s : State) :
    readRequest [] content s = (s, ⟨.ok, content s, .nothing⟩) := rfl

theorem readRequest_cons (b : Byte) (bs : List Byte) (content : State → List Byte) (s : State) :
    readRequest (b :: bs) content s = (s, ⟨.form, [], .nothing⟩) := rfl

/-- What placing a request in the queue does (R176). -/
theorem enqueue_cases (s : State) (r : Request) :
    (s.link.queue.length < 4 ∧ s.enqueue r = { s with link := { s.link with queue := s.link.queue ++ [r] } }) ∨
    (4 ≤ s.link.queue.length ∧ s.enqueue r =
      { s with link := { s.link with flags := { s.link.flags with overrun := true } }
               plant := s.plant.event s.env .linkFaults 1 }) := by
  unfold State.enqueue
  by_cases h : s.link.queue.length < 4
  · left; exact ⟨h, by rw [if_pos (by simpa [Config.requestPlaces] using h)]; rfl⟩
  · right; exact ⟨by omega, by rw [if_neg (by simpa [Config.requestPlaces] using h)]; rfl⟩

end Sys2Proof.Machine
end

