-- ==== Sys2Proof/Tests/Slice0.lean ====
section
/-! SUPPORT. Tests against the figures that spec/ works out by hand, the smoke test of the well-formedness checks, and for
every obligation with hypotheses a witness that meets them. -/

namespace Sys2Proof.Tests

open Sys2Proof Sys2Proof.Machine

-- one test at a time: tests elaborated all at once would start a thread each
set_option Elab.async false

/-! ### Helpers -/

/-- The state a command leaves. -/
def after (i : Instr) (s : State) : State :=
  match exec i s with
  | .next t => t
  | _ => s

/-- The reset state with its settings, level, clock, mode and plant changed. -/
def with_ (e : Env → Env) (p : Plant → Plant) : State :=
  { State.reset with env := e Env.reset, plant := p Plant.reset }

/-- The reset state with the link changed. -/
def linked (l : Link → Link) : State := { State.reset with link := l Link.reset }

/-- The reset state in a mode. -/
def inMode (m : Mode) : State := with_ (fun e => { e with sys := { e.sys with mode := m } }) id

/-- The reset state with a published level of a quality. -/
def levelled (n : Nat) (q : Quality) : State :=
  with_ (fun e => { e with level := { e.level with published := true, quality := q, filtered := n, held := n } }) id

/-- The reset state with a pump changed. -/
def pumped (p : Pump) (f : PumpRec → PumpRec) : State :=
  with_ id fun P => { P with pumps := { P.pumps with recs := P.pumps.recs.set p (f (P.pumps.recs.get p)) } }

/-- The reset state with the inlet changed. -/
def inlet (f : Valve → Valve) : State := with_ id fun P => { P with valves := { P.valves with inlet := f P.valves.inlet } }

/-- The reset state with the dump changed, the guard in NORMAL. -/
def dump (f : Valve → Valve) : State :=
  with_ id fun P => { P with valves := { P.valves with dump := f P.valves.dump }
                             guard := { P.guard with core := { P.guard.core with state := .normal, reason := .none } } }

/-- The reset state with the guard changed. -/
def guarded (f : GuardCore → GuardCore) : State :=
  with_ id fun P => { P with guard := { P.guard with core := f P.guard.core } }

/-- The reset state with the telemetry changed. -/
def telem (f : Telem → Telem) : State := with_ id fun P => { P with telem := f P.telem }

/-- The reset state with an alarm record changed. -/
def alarmed (k : AlarmKind) (st : AlarmState) : State :=
  with_ id fun P => { P with alarms := P.alarms.put k ⟨st, some 7, some none, 3⟩ }

/-- The reply that stands sent and forgotten. -/
def clearedReply (s : State) : State := { s with link := Link.reset }

/-- A point for the tests. -/
def point : TrendPoint := ⟨0, none, 9000, .good, .normal, .dear, 0, 0, 0⟩

/-! ### The well-formedness checks refuse an ill-formed term -/

theorem test_wf_body : Instr.wf (.ping 7 (List.replicate 246 0)) = true ∧ Instr.wf (.ping 7 (List.replicate 247 0)) = false := by
  decide +kernel
theorem test_wf_unknown : Instr.wf (.unknownKind 0x07 1 []) = true ∧ Instr.wf (.unknownKind 0x01 1 []) = false := by decide +kernel
theorem test_wf_frame : Instr.wf (.receiveFrame [0xA5]) = true ∧ Instr.wf (.receiveFrame []) = false := by decide +kernel
theorem test_wf_answer : Instr.wf (.sensorRead (some (-32767)) none none none none) = true ∧
    Instr.wf (.sensorRead none none none none (some (-32768))) = false := by decide +kernel

/-- No row of the table has bits, so no word spells a command. -/
theorem test_no_word : decodeTableWord 16 0xA502 = none := by decide +kernel

/-! ### The frame (R175) -/

/-- The published check value of the check that R175 describes (section 11.1). -/
theorem test_check : crc [0x31, 0x32, 0x33, 0x34, 0x35, 0x36, 0x37, 0x38, 0x39] = 0x29B1 := by decide +kernel
/-- The worked case "One PING". -/
theorem test_ping_steps : crc [2] = 0xC1B2 ∧ crc [2, 1] = 0x6B4C ∧ crc [2, 1, 7] = 0xE12A := by decide +kernel
theorem test_ping_frame : frameBytes 0x01 7 [] = [0xA5, 0x02, 0x01, 0x07, 0xE1, 0x2A] := by decide +kernel
/-- Its reply: kind 0x81, tag 7, result OK, link flags. -/
theorem test_ping_reply :
    (after (.receiveFrame [0xA5, 0x02, 0x01, 0x07, 0xE1, 0x2A]) State.reset).link.slot = some ⟨0x81, 7, [0, 0], .nothing⟩ := by
  decide +kernel
/-- A wrong check byte drops the frame with CHECK. -/
theorem test_wrong_check :
    let t := after (.receiveFrame [0xA5, 0x02, 0x01, 0x07, 0xE1, 0x2B]) State.reset
    t.link.slot = none ∧ t.link.flags = ⟨false, true, false, false⟩ := by decide +kernel

/-! ### Level unit -/

/-- The worked case "Converting one sample". -/
theorem test_convert :
    let c := { Settings.factory with offsetTrim := -12, gainTrim := 25, datum := 350 }
    convert c 2800 = 9990 ∧ convertC c 700 = -640 ∧ convert c 700 = 0 := by decide +kernel
/-- The worked sequence "A transducer fault and its recovery": the tenth good sample seeds, the next averages. -/
theorem test_recovery :
    let lv := { Level.reset with quality := .held, published := true, goodRun := 9, filtered := 9985, held := 9985,
                                 window := [10016, 10020, 10019, 10022, 10021] }
    let seeded := lv.goodSample 10024
    seeded.quality = .good ∧ seeded.filtered = 10021 ∧ (seeded.goodSample 10026).filtered = 10021 := by decide +kernel
/-- The table of the worked case "Volumes from one table". -/
def bowl : List Breakpoint := [⟨0, 0⟩, ⟨4000, 300000⟩, ⟨8000, 700000⟩, ⟨12000, 1150000⟩, ⟨14500, 1400000⟩, ⟨15000, 1445000⟩]
theorem test_volumes : volumeOf bowl 9990 = 923875 ∧ volumeOf bowl 13060 = 1256000 ∧ volumeOf bowl 13200 = 1270000 := by decide +kernel

/-! ### Clock and tariff unit -/

/-- The worked case "Windows in minutes": the Sunday night window wraps the week. -/
theorem test_window_wraps :
    let w : Window := ⟨10020, 360⟩
    w.covers 10079 = true ∧ w.covers 0 = true ∧ w.covers 359 = true ∧ w.covers 360 = false ∧ w.covers 10019 = false := by decide +kernel
/-- The eighth window of that case is refused with RANGE; seven nights are taken. -/
theorem test_windows_touch :
    let body := fun ws : List Window => u8 ws.length ++ ws.flatMap (fun w => u16 w.start ++ u16 w.stop) ++ [0]
    (after (.writeTariffWindows 1 (body [⟨2820, 3240⟩, ⟨3240, 3300⟩])) State.reset).link.slot =
      some ⟨0x94, 1, [5, 0], .nothing⟩ ∧
    (after (.writeTariffWindows 1 (body [⟨2820, 3240⟩, ⟨10020, 360⟩])) State.reset).env.cfg.windows =
      [⟨2820, 3240⟩, ⟨10020, 360⟩] := by decide +kernel

/-! ### Load-share unit: the worked case "Heaters and Pumps on a Frost Night" -/

/-- The settings of that case. -/
def frostNight : Settings := { Settings.factory with zoneRating := ⟨60, 40, 80, 30⟩ }
/-- The table before event 4: Z1, Z3 and P1 granted. -/
def beforeEvent4 : LoadTable :=
  { LoadTable.reset with cap := 800, zones := ⟨.granted .warm 1 1, .idle, .granted .warm 2 2, .idle⟩
                         pumps := ⟨.granted .fill 3 3, .idle, .idle⟩, claimCounter := 4, grantCounter := 4 }
/-- The table after event 4. -/
def afterEvent4 : LoadTable :=
  { beforeEvent4 with zones := ⟨.granted .warm 1 1, .idle, .waiting .warm 5, .idle⟩
                      pumps := ⟨.granted .fill 3 3, .granted .fill 4 4, .idle⟩, claimCounter := 6, grantCounter := 5 }
theorem test_event4 : (walk frostNight (beforeEvent4.take (.pump .p2) .fill)).1 = afterEvent4 := by decide +kernel
/-- Event 5: one FREEZE claim short of room revokes nothing. -/
theorem test_event5 : (walk frostNight (afterEvent4.take (.zone .z3) .freeze)).1 =
    { afterEvent4 with zones := ⟨.granted .warm 1 1, .idle, .waiting .freeze 6, .idle⟩, claimCounter := 7 } := by decide +kernel
/-- Order a at window end: Z1, then P1, and no more. -/
theorem test_window_end :
    let t : LoadTable := { afterEvent4 with zones := ⟨.granted .warm 1 1, .idle, .granted .freeze 6 5, .idle⟩
                                            pumps := ⟨.granted .fill 3 3, .idle, .idle⟩, claimCounter := 7, grantCounter := 6
                                            capCheap := true }
    let u := (t.setCap frostNight false).1
    u.zones = ⟨.waiting .warm 7, .idle, .granted .freeze 6 5, .idle⟩ ∧ u.pumps.p1 = .waiting .fill 8 := by decide +kernel

/-! ### Fill unit: the worked cases "Planning One Night" and "The Draw Learnt at Window End" -/

/-- The tower of those cases at 23:00 on a Tuesday. -/
def night : State :=
  with_ (fun e => { e with
      cfg := { e.cfg with geometry := some (bowl.take 5), windows := [⟨2820, 3240⟩]
                          set := { e.cfg.set with source := .calendar, delivery := ⟨1050, 1100, 900⟩ } }
      level := { e.level with published := true, quality := .good, filtered := 9990, held := 9990 }
      clock := { e.clock with isSet := true, minute := 2820, tariff := .cheap }
      sys := { e.sys with mode := .run } })
    fun P => { P with load := { P.load with cap := 1000, capCheap := true }
                      fill := { P.fill with draw := 180, windowOpen := true }
                      pumps := { P.pumps with duty := [.p2, .p1, .p3] }
                      valves := ⟨{ Valve.reset with state := .idle, position := some 0, target := some 0 },
                                 { Valve.reset with state := .idle, position := some 0, target := some 0 }⟩
                      guard := { P.guard with core := { P.guard.core with state := .normal, reason := .none, inletHold := none } } }
theorem test_plan :
    let r := evaluatePlan night.env night.plant
    r.1.state = .filling ∧ r.1.need = 416325 ∧ r.1.available = 390 ∧ r.1.kNeed = 1 ∧ r.1.kMax = 2 ∧ r.2 = 1 ∧
      r.1.shortfall = false ∧ r.1.finish = some ⟨379, some 3199⟩ := by decide +kernel
/-- R99 in BLIND_FILL: a draw of 65535 L/min over 390 min is beyond the whole list, so SHORTFALL is set beside fill k 1, and also once
the blind minutes stand at their limit of 60; R102 a: it is set where the cap admits no pump; the worked night's figures leave it clear. -/
theorem test_blind_shortfall :
    let blind := fun (draw minutes cap : Nat) =>
      evaluatePlan { night.env with level := { night.env.level with quality := .invalid } }
        { night.plant with fill := { night.plant.fill with draw := draw, blind := minutes }
                           load := { night.plant.load with cap := cap } }
    (blind 65535 0 1000).1.state = .blindFill ∧ (blind 65535 0 1000).1.shortfall = true ∧ (blind 65535 0 1000).2 = 1 ∧
      (blind 65535 60 1000).1.shortfall = true ∧ (blind 65535 60 1000).2 = 0 ∧
      (blind 180 0 369).1.shortfall = true ∧ (blind 180 0 1000).1.shortfall = false := by decide +kernel
theorem test_draw : observedDraw ⟨some 923875, 410000, 420, true⟩ 332125 = 185 ∧ learnDraw 180 185 = 181 ∧
    meterFails ⟨some 923875, 410000, 420, true⟩ 332125 = false ∧ meterFails ⟨some 923875, 300000, 420, true⟩ 332125 = true ∧
    learnDraw 180 (observedDraw ⟨some 923875, 300000, 420, true⟩ 332125) = 158 := by decide +kernel

/-! ### Restarts -/

/-- A power-on of the reset state, its pins as they stand there, leaves exactly the reset state (log 7). -/
theorem test_power_on_is_reset : restart .cold State.reset = State.reset := by decide +kernel
/-- R187: a dip raises SUPPLY_DIP, which stands LATCHED. -/
theorem test_dip : ((after .supplyDipRestart State.reset).plant.alarms.get .supplyDip).state = .latched := by decide +kernel

/-! ### Witnesses: for each obligation a state and operands that meet its hypotheses, clause by clause, at the edge of a range
where it has one -/

theorem witness_StepRunsFrontCommand : ({ State.reset with pending := [.clockMinute, .powerOn] } : State).pending =
    .clockMinute :: [.powerOn] := by decide

/-- UNSET, SET before second 59, SET at second 59. -/
theorem witness_IdleSecondPasses :
    let at_ := fun n => with_ (fun e => { e with clock := { e.clock with isSet := true, second := n } }) id
    State.reset.pending = [] ∧ State.reset.env.clock.isSet = false ∧
    (at_ 58).pending = [] ∧ (at_ 58).env.clock.isSet = true ∧ (at_ 58).env.clock.second < 59 ∧
    (at_ 59).pending = [] ∧ (at_ 59).env.clock.isSet = true ∧ (at_ 59).env.clock.second = 59 := by decide +kernel

/-- One second before, and at, what each counter of a second reaches: a rest, a feedback time, the spacing, the guard's three timers. -/
theorem witness_IdleSecondPasses_counters :
    let at_ := fun st n => pumped .p1 fun r => { r with state := st, timer := n }
    let spaced := with_ id fun P => { P with pumps := { P.pumps with spacing := 29 } }
    let guard := guarded fun k => { k with release := ⟨true, 59⟩, runOn := ⟨true, 119⟩, autoClear := ⟨true, 29⟩, autoClearSecs := 59 }
    ((at_ .resting 178).pending = [] ∧ ¬ (at_ .resting 178).env.cfg.set.restTime ≤ 178 + 1 ∧
      (at_ .resting 179).env.cfg.set.restTime ≤ 179 + 1) ∧
    ((at_ .starting 4).env.cfg.set.feedbackTime = 4 + 1 ∧ pumpNumber .p1 ≤ (at_ .starting 4).env.cfg.set.pumpsFitted) ∧
    (spaced.pending = [] ∧ spaced.plant.pumps.spacing < spaced.env.cfg.set.startSpacing ∧
      spaced.env.cfg.set.startSpacing ≤ min 65535 (29 + 1)) ∧
    (guard.pending = [] ∧ guard.plant.guard.core.release.running = true ∧ guard.plant.guard.core.runOn.running = true ∧
      guard.plant.guard.core.autoClear.running = true ∧ 60 ≤ guard.plant.guard.core.autoClearSecs + 1) := by decide +kernel

/-- A part whose other counters of seconds stand two seconds before what they reach, and `d` seconds later. -/
def late (d : Nat) (k : CircState) : State :=
  { State.reset with
    env := { Env.reset with
      cfg := { Env.reset.cfg with set := { Env.reset.cfg.set with
        supervision := 30, zone := Env.reset.cfg.set.zone.map fun z => { z with enabled := true, critical := 0 } } }
      level := { Env.reset.level with minuteSecs := 58 + d, low := ⟨.wet, some d⟩, overFloat := ⟨.dry, some d⟩ }
      clock := { Env.reset.clock with lineSecs := 58 + d, lineDebounce := some (3 + d) }
      sys := { Env.reset.sys with mode := .commission, sim := { Env.reset.sys.sim with inflowRate := 1, total60 := 598 + d } } }
    plant := { Plant.reset with
      pumps := { Plant.reset.pumps with
        recs := Plant.reset.pumps.recs.map fun r =>
          { r with state := .off, simFeedback := .present, simSecs := d, feedbackSecs := 3 + d }
        stagnationSecs := 58 + d }
      fill := { Plant.reset.fill with windowOpen := true, minuteSecs := 58 + d, lowWet := 9, lowWetSecs := 58 + d }
      frost := { Plant.reset.frost with
        zones := ⟨{ ZoneRec.reset with state := .off, timer := 58 + d }, { ZoneRec.reset with state := .heat, timer := 118 + d },
          { ZoneRec.reset with state := .fallback, fallback := some ⟨true, 9, 58 + d⟩ },
          { ZoneRec.reset with state := .off, freezeSecs := 58 + d }⟩
        sensors := Plant.reset.frost.sensors.map fun x => { x with reading := some (-1) }
        circ := ⟨k, 598 + d, Env.reset.cfg.set.circRunTime * 60 - 2 + d, 598 + d, none⟩ }
      telem := { Plant.reset.telem with clear := some 9, clearSecs := d, interval := 58 + d, batch := [point], report := 898 + d } }
    link := { Link.reset with supervision := 28 + d } }

/-- One second before, and at, what each other counter of a second reaches; a second brings its command at the latter alone. -/
theorem witness_IdleSecondPasses_others :
    (∀ i ∈ [Instr.levelMinuteTimer, .floatDebounceExpiry .low, .floatDebounceExpiry .overFloat, .lineMinuteTick,
        .tariffDebounceExpiry, .feedbackWithoutCommand .p1, .simulatedFeedbackChange .p2, .stagnationMinute, .fillMinuteTimer,
        .lowWetTimerExpiry, .simulatedInflowPulse, .heaterTimerExpiry .z1, .heaterTimerExpiry .z2, .fallbackPhaseChange .z3,
        .freezeTimerMinute .z4, .clearTrendDone, .trendIntervalTimer, .reportTimerExpiry, .silenceStart, .circRunCompletion],
      i ∉ (tick (late 0 .run)).pending ∧ i ∈ (tick (late 1 .run)).pending) ∧ (late 1 .run).pending = [] ∧
    (Instr.circWaitTimerExpiry ∉ (tick (late 0 .demanded)).pending ∧ Instr.circWaitTimerExpiry ∈ (tick (late 1 .demanded)).pending) ∧
    (Instr.circRetryTimerExpiry ∉ (tick (late 0 .refused)).pending ∧ Instr.circRetryTimerExpiry ∈ (tick (late 1 .refused)).pending) := by
  decide +kernel

/-- The longest body, with a place in the queue and without one, nothing before it, and in silence. -/
theorem witness_FormedFrameIsTaken :
    let standing := fun n => linked fun l =>
      { l with slot := some ⟨0x81, 7, [0, 0], .nothing⟩, queue := List.replicate n ⟨1, 7, []⟩ }
    (List.replicate 246 (0xA5 : Byte)).length ≤ 246 ∧
    ((standing 3).link.rx = none ∧ (standing 3).link.silence = false ∧ (standing 3).link.slot.isSome = true ∧
      (standing 3).link.queue.length < 4) ∧
    ((standing 4).link.rx = none ∧ (standing 4).link.silence = false ∧ (standing 4).link.slot.isSome = true ∧
      4 ≤ (standing 4).link.queue.length) ∧
    (State.reset.link.rx = none ∧ State.reset.link.silence = false ∧ State.reset.clearToAnswer = true) ∧
    ((linked fun l => { l with silence := true }).link.rx = none ∧
      (linked fun l => { l with silence := true }).link.silence = true) := by decide +kernel

/-- Bytes with no lead, both wrong lengths next to the range, a wrong check, a partial frame, HUNTING. -/
theorem witness_BadFramesDropped :
    State.reset.link.rx = none ∧ (0xA5 : Byte) ∉ ([0, 0xA4] : List Byte) ∧
    (1 : Byte).toNat < 2 ∧ 248 < (249 : Byte).toNat ∧
    (List.replicate 246 (0 : Byte)).length ≤ 246 ∧ [0xE1, 0x2B] ≠ u16 (crc [BitVec.ofNat 8 (0 + 2), 1, 7]).toNat ∧
    (linked fun l => { l with rx := some [2, 1] }).link.rx.isSome = true := by decide +kernel

/-- Something before the request, with a place in the queue and without one. -/
theorem witness_RequestWaitsItsTurn :
    let queued := fun n => linked fun l => { l with queue := List.replicate n ⟨1, 7, []⟩ }
    requestOf (.ping 7 []) = some ⟨1, 7, []⟩ ∧
    (queued 3).clearToAnswer = false ∧ (queued 3).link.queue.length < 4 ∧
    (queued 4).clearToAnswer = false ∧ 4 ≤ (queued 4).link.queue.length := by decide +kernel

/-- The kind after a listed one, tag 0, and four DONE notices waiting. -/
theorem witness_RequestRefusedFirst :
    let full := telem fun t => { t with queue := List.replicate 4 ⟨.done, 7, []⟩ }
    (0x07 : Byte) ∉ knownKinds ∧ State.reset.clearToAnswer = true ∧
    requestOf (.setMode 0 [1, 0]) = some ⟨3, 0, [1, 0]⟩ ∧ (⟨3, 0, [1, 0]⟩ : Request).tag = 0 ∧
    requestOf (.clearTrend 7 []) = some ⟨0x34, 7, []⟩ ∧ full.clearToAnswer = true ∧ (7 : Byte) ≠ 0 ∧
    (0x34 : Byte) ∈ [(0x16 : Byte), 0x28, 0x29, 0x34] ∧ 4 ≤ doneLoad full.env.sys full.plant := by decide +kernel

/-- One of the READ requests; of two records that stand the more urgent, of two as urgent the one raised first, and none that
stands. -/
theorem witness_ReadRequestsAnswerOk :
    requestOf (.readStatus 7 []) = some ⟨2, 7, []⟩ ∧ readContentOf (.readStatus 7 []) = some statusContent ∧
    State.reset.clearToAnswer = true ∧ (⟨2, 7, []⟩ : Request).tag ≠ 0 := ⟨rfl, rfl, by decide, by decide⟩
theorem witness_ReadRequestsAnswerOk_alarms :
    let a := (alarmed .high .latched).plant.alarms
    let q := ((Alarms.reset.put .store .reset).put .overflowTrip ⟨.acked, some 4294967295, some none, 1⟩)
    ((a.get .store).state = .active ∧ (a.get .high).state = .latched ∧ AlarmKind.store.priority < AlarmKind.high.priority) ∧
    (∀ j ∈ allAlarms, ((a.get j).raiseSeq).getD 0 < 4294967296 ∧
      (j ≠ .store → j ≠ .high → (a.get j).state ≠ .active ∧ (a.get j).state ≠ .latched)) ∧
    ∀ j ∈ allAlarms, (q.get j).state ≠ .active ∧ (q.get j).state ≠ .latched ∧
      ((q.get j).raiseSeq).getD 0 < 4294967296 := by decide +kernel

/-- The hypotheses that the statements about one request share: a tag, nothing before it, a body that is not empty. -/
theorem witness_request : (7 : Byte) ≠ 0 ∧ State.reset.clearToAnswer = true ∧ ([0] : List Byte) ≠ [] := by decide

/-- For ReadListsReply, ReadLevelReply and LinkRequests the shared hypotheses are all there are. -/
theorem witness_ReadListsReply : (7 : Byte) ≠ 0 ∧ State.reset.clearToAnswer = true ∧ ([0] : List Byte) ≠ [] := witness_request
theorem witness_ReadLevelReply : (7 : Byte) ≠ 0 ∧ State.reset.clearToAnswer = true ∧ ([0] : List Byte) ≠ [] := witness_request
theorem witness_LinkRequests : (7 : Byte) ≠ 0 ∧ State.reset.clearToAnswer = true ∧ ([0] : List Byte) ≠ [] := witness_request

/-- The first and the last id of the table, and the numbers next to them. -/
theorem witness_ReadSettingReply : (7 : Byte) ≠ 0 ∧ State.reset.clearToAnswer = true ∧ SettingId.offsetTrim.number = 101 ∧
    SettingId.supervision.number = 1102 ∧ 65535 < 65536 ∧
    (∀ i ∈ allSettings, i.number ≠ 100 ∧ i.number ≠ 1103) := by decide +kernel

/-- The ends of the range of f, of n and of q. -/
theorem witness_ReadSomeRecords : (7 : Byte) ≠ 0 ∧ State.reset.clearToAnswer = true ∧ 255 < 256 ∧
    (1 ≤ 1 ∧ 1 ≤ 24) ∧ (1 ≤ 24 ∧ 24 ≤ 24) ∧ (24 < 25 ∧ 25 < 256) ∧ 4294967295 < 4294967296 ∧
    State.reset.plant.telem.clear = none ∧ (telem fun t => { t with clear := some 9 }).plant.telem.clear.isSome = true ∧
    (telem fun t => { t with clear := some 9 }).clearToAnswer = true ∧ State.reset.plant.telem.log = [] ∧
    (telem fun t => { t with log := [point] }).plant.telem.log = point :: [] := by decide +kernel

/-- A frame on the line; a reply with no request and with one behind it; a notice; nothing to send. -/
theorem witness_TransmitterChooses :
    let r : Reply := ⟨0x81, 7, [0, 0], .nothing⟩
    (linked fun l => { l with sending := some ⟨[], .nothing⟩ }).link.sending.isSome = true ∧
    ((linked fun l => { l with slot := some r }).link.sending = none ∧
      (linked fun l => { l with slot := some r }).link.slot = some r ∧ (linked fun l => { l with slot := some r }).link.queue = []) ∧
    (linked fun l => { l with slot := some r, queue := [⟨1, 8, []⟩] }).link.queue = ⟨1, 8, []⟩ :: [] ∧
    (State.reset.link.sending = none ∧ State.reset.link.slot = none ∧ State.reset.link.paused = false ∧
      State.reset.plant.telem.queue = statusAtReset :: [alarmAtReset]) ∧
    (linked fun l => { l with paused := true }).link.paused = true ∧
    (telem fun t => { t with queue := [] }).plant.telem.queue = [] := by decide +kernel

/-- An idle line, and a frame with each of the things that follow it; RESTART. -/
theorem witness_FrameSentFollowUp : State.reset.link.sending = none ∧
    (∀ a ∈ [After.nothing, .lineRate 3, .restart],
      (linked fun l => { l with sending := some ⟨[1], a⟩ }).link.sending = some ⟨[1], a⟩) ∧
    (7 : Byte) ≠ 0 ∧ State.reset.clearToAnswer = true := by decide +kernel

theorem witness_SilenceBegins : State.reset.env.cfg.set.supervision ≠ 0 ∧ State.reset.link.silence = false ∧
    State.reset.plant.alarms.table.length = 24 ∧ (linked fun l => { l with silence := true }).link.silence = true ∧
    (with_ (fun e => { e with cfg := { e.cfg with set := { e.cfg.set with supervision := 0 } } }) id).env.cfg.set.supervision = 0 := by
  decide +kernel

/-- The reset state in COMMISSION, its simulated code as given. -/
def simulating (n : Nat) : State :=
  with_ (fun e => { e with sys := { e.sys with mode := .commission, sim := { e.sys.sim with raw := n } } }) id

/-- The state with a published level and a rate, at L_over less 1 or at L_over, or falling. -/
def rated (n : Nat) (r : Option Int) : State :=
  with_ (fun e => { e with level :=
    { e.level with published := true, quality := .held, filtered := n, held := n, rate := r, goodRun := 9, window := [n, n] } }) id

/-- The codes next to the good range, real and simulated, at each quality and at the end of the fault run; with a rate that rises,
one that does not, and none; before the first publication. -/
theorem witness_FaultedSample : State.reset.env.sys.mode ≠ .commission ∧ (654 : BitVec 12).toNat < 655 ∧
    4055 < (4056 : BitVec 12).toNat ∧ (simulating 654).env.sys.mode = .commission ∧ (simulating 654).env.sys.sim.raw < 655 ∧
    (let seen := fun s => (after (.transducerSample 654) s).env.level
     ((seen (rated 14599 (some 1))).rate = some 1 ∧ (rated 14599 (some 1)).env.level.published = true) ∧
     (seen (rated 14600 (some 1))).rate = some 1 ∧ (seen (rated 14600 (some 0))).rate = some 0 ∧
     (seen (rated 14600 none)).rate = none ∧ State.reset.env.level.published = false ∧
     (seen State.reset).quality ≠ .invalid) ∧ (levelled 9985 .good).env.level.quality = .good ∧
    (levelled 9985 .held).env.level.quality = .held ∧ (levelled 9985 .invalid).env.level.quality = .invalid ∧
    (let s := with_ (fun e => { e with level := { e.level with faultRun := 239 } }) id
     let v := (after (.transducerSample 654) s).env.level
     v.quality = .invalid ∧ s.env.level.quality ≠ .invalid ∧ v.faultRun = 240) := by decide +kernel

/-- The ends of the good range, real and simulated; a window of four and of five; each case of the quality; each kind of rate. -/
theorem witness_GoodSample : State.reset.env.sys.mode ≠ .commission ∧ 655 ≤ (655 : BitVec 12).toNat ∧
    (4055 : BitVec 12).toNat ≤ 4055 ∧ (simulating 4055).env.sys.mode = .commission ∧ (simulating 4055).env.sys.sim.raw ≤ 4055 ∧
    (let seen := fun s => (after (.transducerSample 655) s).env.level
     (seen (rated 14599 (some 1))).rate = some 1 ∧ (seen (rated 14600 (some 1))).rate = some 1 ∧
     (seen (rated 14600 (some 0))).rate = some 0 ∧ (seen (rated 14600 none)).rate = none ∧
     State.reset.env.level.published = false ∧ (seen State.reset).quality ≠ .good) ∧
    (let at_ := fun (q : Quality) (pub : Bool) (g n : Nat) => with_ (fun e => { e with level :=
        { e.level with quality := q, published := pub, goodRun := g, window := List.replicate n 7 } }) id
     let seen := fun s => (after (.transducerSample 655) s).env.level
     ((at_ .good true 9 4).env.level.window.length < 5 ∧ median (seen (at_ .good true 9 4)).window = some 7) ∧
     ((at_ .held false 4 5).env.level.window.length = 5 ∧ median (seen (at_ .held false 4 5)).window = some 7) ∧
     (seen (at_ .held true 9 5)).goodRun = 10 ∧ (seen (at_ .invalid true 9 5)).goodRun = 10 ∧
     median (seen (at_ .held false 0 3)).window = none ∧ (seen (at_ .invalid false 8 5)).goodRun < 10 ∧
     (seen (at_ .good true 9 4)).quality = .good ∧ (seen (at_ .held false 4 5)).quality = .good) := by decide +kernel

/-- A table of 24 records; the sample that brings INVALID, the one that ends it, one with LEVEL_DISAGREE standing and no publication,
and levels at and next to the tolerance of each float. -/
theorem witness_sample_conditions :
    let c := Settings.factory
    let there := fun (k : AlarmKind) (s : State) => { s with plant := (alarmed k .active).plant }
    let at_ := fun (l : Nat) (w o : Wet) => with_ (fun e => { e with level := { e.level with
      published := true, quality := .good, filtered := l, window := List.replicate 5 l, low := ⟨w, none⟩, overFloat := ⟨o, none⟩ } }) id
    let held := fun (q : Quality) (f g : Nat) => with_ (fun e => { e with level := { e.level with
      published := true, quality := q, faultRun := f, goodRun := g, window := List.replicate 5 9000, low := ⟨.wet, none⟩ } }) id
    let shows := fun (k : AlarmKind) (raw : BitVec 12) (s : State) =>
      ((after (.transducerSample raw) s).plant.alarms.get k).state.present
    State.reset.plant.alarms.table.length = 24 ∧ shows .levelSensor 654 (held .held 239 0) = true ∧
    shows .levelSensor 654 (held .held 238 0) = false ∧
    shows .levelSensor 2000 (there .levelSensor (held .invalid 240 9)) = false ∧
    shows .levelSensor 2000 (there .levelSensor (held .invalid 240 8)) = true ∧
    shows .levelDisagree 654 (there .levelDisagree (at_ 9000 .wet .wet)) = false ∧
    shows .levelDisagree 654 (there .levelDisagree State.reset) = true ∧
    (floatsDisagree c (at_ (c.hOver - c.floatTol - 1) .wet .wet).env.level ∧
      ¬ floatsDisagree c (at_ (c.hOver - c.floatTol) .wet .wet).env.level) ∧
    (floatsDisagree c (at_ (c.hLow + c.floatTol + 1) .dry .dry).env.level ∧
      ¬ floatsDisagree c (at_ (c.hLow + c.floatTol) .dry .dry).env.level) := by
  unfold floatsDisagree; decide +kernel

/-- A known snapshot that was GOOD and one that was not; a rising and a falling rate; a level under and at L_over. -/
theorem witness_LevelMinute :
    let at_ := fun (sn : Option Snapshot) (g : Bool) (l : Nat) => with_ (fun e => { e with level :=
      { e.level with snapshot := sn, goodSince := g, filtered := l, quality := .good } }) id
    let rate := fun s => (after .levelMinuteTimer s).env.level.rate
    rate (at_ (some ⟨9000, true⟩) true 9001) = some 1 ∧ rate (at_ (some ⟨14599, true⟩) true 14600) = some 1 ∧
    rate (at_ (some ⟨9000, true⟩) true 9000) = some 0 ∧ rate (at_ (some ⟨9000, false⟩) true 9001) = none ∧
    rate (at_ none true 9001) = none ∧ rate (at_ (some ⟨9000, true⟩) false 9001) = none := by decide +kernel

/-- Each mode, a float that agrees and one that waits, WET and DRY. -/
theorem witness_FloatDebounce :
    let waits := fun w => with_ (fun e => { e with level := { e.level with low := ⟨w, some 2⟩ } }) id
    State.reset.env.sys.mode ≠ .commission ∧ (inMode .commission).env.sys.mode = .commission ∧
    (State.reset.env.level.float .overFloat).debounce = none ∧ (waits .wet).env.level.low.debounce.isSome = true ∧
    (waits .wet).env.level.low.reported = .wet ∧ (waits .dry).env.level.low.debounce.isSome = true := by decide +kernel

/-- The fewest breakpoints that reach L_over are admitted, one is not; each standing of the part. -/
theorem witness_WriteGeometry :
    let bs : List Breakpoint := [⟨0, 0⟩, ⟨14600, 4000000⟩]
    let s := with_ (fun e => { e with sys := { e.sys with commit := some ⟨7, e.cfg⟩ } }) id
    (7 : Byte) ≠ 0 ∧ State.reset.clearToAnswer = true ∧ bs.length ≤ 40 ∧
    (∀ b ∈ bs, b.level < 65536 ∧ b.volume < 4294967296) ∧ State.reset.env.sys.mode = .setup ∧ State.reset.env.sys.commit = none ∧
    (2 ≤ bs.length ∧ bs.length ≤ 16 ∧ (∃ b, bs.head? = some b ∧ b.level = 0) ∧
      (∀ b ∈ bs, b.level ≤ 20000 ∧ b.volume ≤ 4000000) ∧
      bs.Pairwise (fun a b => a.level < b.level ∧ a.volume < b.volume) ∧
      ∃ b, bs.getLast? = some b ∧ State.reset.env.cfg.set.lOver ≤ b.level) ∧
    ¬ 2 ≤ ([⟨0, 0⟩] : List Breakpoint).length ∧ (inMode .run).env.sys.mode ≠ .setup ∧ s.env.sys.commit.isSome = true ∧
    s.env.sys.mode = .setup :=
  ⟨by decide, by decide, by decide, by decide, by decide, by decide,
    ⟨by decide, by decide, ⟨_, rfl, by decide⟩, by decide, by decide, ⟨⟨14600, 4000000⟩, rfl, by decide⟩⟩,
    by decide, by decide, by decide, by decide⟩

theorem witness_DayClock : State.reset.env.clock.isSet = false ∧ night.env.clock.isSet = true ∧ (7 : Byte) ≠ 0 ∧
    State.reset.clearToAnswer = true ∧ 65535 < 65536 ∧ 255 < 256 ∧ ([0, 0, 0, 1] : List Byte).getLast? ≠ some 0 := by decide

/-- Each mode, a line that agrees and one that waits, OPEN and CLOSED, and the ends of the lengths that are learned. -/
theorem witness_TariffLine :
    let at_ := fun k m => with_ (fun e => { e with clock :=
      { e.clock with line := k, lineDebounce := some 5, lineCheap := some ⟨m, true⟩, stale := 1799 } }) id
    State.reset.env.sys.mode ≠ .commission ∧ (inMode .commission).env.sys.mode = .commission ∧
    State.reset.env.clock.lineDebounce = none ∧ (at_ .opened 30).env.clock.lineDebounce.isSome = true ∧
    (at_ .opened 30).env.clock.line = .opened ∧ (at_ .closed 30).env.clock.line = .closed ∧
    (at_ .closed 30).env.clock.lineCheap = some ⟨30, true⟩ ∧ (at_ .closed 1441).env.clock.lineCheap = some ⟨1441, true⟩ ∧
    (at_ .closed 30).env.clock.stale = 1799 := by decide +kernel

/-- Two windows that part the week but for two minutes are admitted, a start at the end of another is not. -/
theorem witness_WriteTariffWindows :
    let ws : List Window := [⟨0, 10⟩, ⟨11, 10079⟩]
    let s := with_ (fun e => { e with sys := { e.sys with commit := some ⟨7, e.cfg⟩ } }) id
    (7 : Byte) ≠ 0 ∧ State.reset.clearToAnswer = true ∧ ws.length ≤ 61 ∧ (∀ w ∈ ws, w.start < 65536 ∧ w.stop < 65536) ∧
    State.reset.env.sys.commit = none ∧ s.env.sys.commit.isSome = true ∧
    (ws.length ≤ 8 ∧ (∀ w ∈ ws, w.start ≤ 10079 ∧ w.stop ≤ 10079 ∧ w.start ≠ w.stop) ∧
      ws.Pairwise (fun a b => a.stop ≠ b.start ∧ b.stop ≠ a.start ∧
        ∀ m, m < 10080 → ¬ (a.covers m = true ∧ b.covers m = true))) ∧
    ¬ ([⟨0, 10⟩, ⟨10, 20⟩] : List Window).Pairwise (fun a b => a.stop ≠ b.start) := by
  refine ⟨by decide, by decide, by decide, by decide, by decide, by decide, ⟨by decide, by decide, ?_⟩, by decide⟩
  refine List.Pairwise.cons ?_ (List.pairwise_singleton _ _)
  intro b hb
  rw [List.mem_singleton] at hb
  subst hb
  refine ⟨by decide, by decide, ?_⟩
  intro m _ h
  have h1 := h.1
  have h2 := h.2
  simp [Window.covers] at h1 h2
  omega

/-- The store at reset fails its check, so nothing is loaded from it. -/
theorem reset_store_fails : State.reset.env.sys.store.loadable = none := by decide +kernel

/-- The setpoints keep their order in a state with the factory's setpoints, the store of reset and no commit in flight. -/
theorem ordered_of (s : State) (h : Ordered s.env.cfg.set) (hs : s.env.sys.store = State.reset.env.sys.store)
    (hc : s.env.sys.commit = none) : SetpointsOrdered s := by
  refine ⟨h, ?_, ?_⟩
  · intro w hw; rw [hs, reset_store_fails] at hw; cases hw
  · intro c hw; rw [hc] at hw; cases hw

/-- For each invariant a state that has it, with a command waiting, from which a step answers a next state. -/
theorem witness_invariants :
    let s := { night with pending := [Instr.clockMinute] }
    CapKept s ∧ SetpointsOrdered s ∧ LevelInTank s ∧ TariffSound s ∧ QueueSound s ∧ BuffersSound s ∧
      step s = .next (after .clockMinute night) := by
  refine ⟨?_, ordered_of _ ?_ rfl rfl, ?_, ?_, ⟨?_, ?_, ?_, ?_, ?_, ?_, ?_⟩, ?_, rfl⟩
  · unfold CapKept; decide +kernel
  · unfold Ordered; decide +kernel
  · unfold LevelInTank; decide +kernel
  · unfold TariffSound; decide +kernel
  iterate 6 · decide +kernel
  · intro i; cases i <;> decide +kernel
  · unfold BuffersSound; decide +kernel
theorem witness_pumpInvariants :
    let s := { night with pending := [Instr.clockMinute] }
    OneStarting s ∧ DutyListSound s := by
  refine ⟨?_, by decide, ?_⟩
  · intro p q h; cases p <;> cases h
  · intro p; unfold available; cases p <;> decide

/-- A waiting, a granted and an idle record, and the claim counter at its top and below it. -/
theorem witness_ClaimAndRelease :
    beforeEvent4.claimCounter < 4294967295 ∧ ({ beforeEvent4 with claimCounter := 4294967295 } : LoadTable).claimCounter = 4294967295 ∧
    Load.pump .p2 ≠ .pump .p1 ∧ beforeEvent4.claim (.pump .p2) = .idle ∧
    (afterEvent4.claim (.zone .z3) = .waiting .warm 5 ∧ LoadClass.warm ≠ .freeze) ∧
    (beforeEvent4.claim (.zone .z1) = .granted .warm 1 1 ∧ LoadClass.warm ≠ .freeze) ∧
    (beforeEvent4.claim (.pump .p1)).cls? = some .fill ∧
    (beforeEvent4.claim (.zone .z1)).seq? = some 1 ∧ (beforeEvent4.claim (.zone .z3)).seq? = some 2 := by decide +kernel

/-- A granted pump, a FREEZE zone granted, and two entries of which the more urgent stays waiting. -/
theorem witness_WalkOrder :
    let t : LoadTable := { afterEvent4 with zones := ⟨.granted .freeze 1 1, .waiting .warm 6, .waiting .freeze 7, .idle⟩ }
    t.claim (.pump .p1) = .granted .fill 3 3 ∧ t.claim (.zone .z1) = .granted .freeze 1 1 ∧ t.claim (.zone .z4) = .idle ∧
    ((walk frostNight t).1.claim (.pump .p1)).isGranted = true ∧
    (t.claim (.zone .z2) = .waiting .warm 6 ∧ t.claim (.zone .z3) = .waiting .freeze 7 ∧
      LoadClass.freeze.number < LoadClass.warm.number ∧ ((walk frostNight t).1.claim (.zone .z3)).isGranted = false) := by
  decide +kernel
/-- An entry at the head that fits exactly, with the grant of a less urgent zone revoked for it; one left waiting for want of room. -/
theorem witness_WalkOrder_head :
    let t : LoadTable := { beforeEvent4 with cap := 740, pumps := ⟨.granted .fill 3 3, .waiting .fill 4, .idle⟩ }
    let low : LoadTable := { t with cap := 739 }
    t.claim (.pump .p2) = .waiting .fill 4 ∧ (∀ l ∈ allLoads, l ≠ .pump .p2 → (t.claim l).isWaiting = false) ∧
    rating frostNight (.pump .p2) = (t.cap - grantedSum frostNight t) + frostNight.zoneRating.z1 + frostNight.zoneRating.z3 ∧
    LoadClass.fill.number < LoadClass.warm.number ∧ ((walk frostNight low).1.claim (.pump .p2)).isGranted = false := by
  decide +kernel
theorem witness_WalkOrder_seqs : ∀ l k n, afterEvent4.claim l = .waiting k n → n < 4294967296 := by
  intro l k n h
  rcases l with p | z
  · cases p <;> cases h
  · cases z <;> cases h
    decide

/-- A sum within the cap that the new cap holds, and one that it does not, where the less urgent load loses its grant. -/
theorem witness_CapChange :
    let t : LoadTable := { afterEvent4 with zones := ⟨.granted .warm 1 1, .idle, .granted .freeze 6 5, .idle⟩
                                            pumps := ⟨.granted .fill 3 3, .idle, .idle⟩, capCheap := true }
    grantedSum frostNight t ≤ t.cap ∧ grantedSum frostNight t ≤ (t.setCap frostNight true).1.cap ∧
    t.claim (.pump .p1) = .granted .fill 3 3 ∧ t.claim (.zone .z1) = .granted .warm 1 1 ∧
    LoadClass.fill.number < LoadClass.warm.number ∧ ((t.setCap frostNight false).1.claim (.pump .p1)).isGranted = false := by
  decide +kernel
theorem witness_CapChange_grants : ∀ l k n g, beforeEvent4.claim l = .granted k n g → g < 4294967296 := by
  intro l k n g h
  rcases l with p | z
  · cases p <;> cases h
    decide
  · cases z <;> cases h <;> decide

/-- The loads granted up to the one that loses its grant exceed the new cap: no grant is taken for nothing. -/
theorem witness_CapChange_needed :
    let t : LoadTable := { afterEvent4 with zones := ⟨.granted .warm 1 1, .idle, .granted .freeze 6 5, .idle⟩
                                            pumps := ⟨.granted .fill 3 3, .idle, .idle⟩, capCheap := true }
    t.claim (.zone .z3) = .granted .freeze 6 5 ∧ ((t.setCap frostNight false).1.claim (.zone .z3)).isGranted = true ∧
    t.claim (.pump .p1) = .granted .fill 3 3 ∧
    (t.setCap frostNight false).1.cap < rating frostNight (.pump .p1) + rating frostNight (.zone .z3) := by decide +kernel

/-- A pump in each state that a finding of R66 speaks of, with each feedback; P3 at the edge of the pumps fitted. -/
theorem witness_PumpFaultsLockOut :
    let at_ := fun (st : PumpState) (f : Presence) => with_ (fun e => { e with pins := { e.pins with feedback := ⟨f, f, f⟩ } })
      fun P => { P with pumps := { P.pumps with recs := P.pumps.recs.set .p3 { P.pumps.recs.p3 with state := st } } }
    let two := with_ (fun e => { e with cfg := { e.cfg with set := { e.cfg.set with pumpsFitted := 2 } } }) id
    ((at_ .starting .absent).plant.pumps.recs.p3.state = .starting ∧ (at_ .starting .absent).env.pins.feedback.p3 = .absent) ∧
    (at_ .starting .present).env.pins.feedback.p3 = .present ∧ State.reset.plant.pumps.recs.p3.state ≠ .starting ∧
    ((at_ .running .present).plant.pumps.recs.p3.state = .running ∧ (at_ .running .present).env.pins.feedback.p3 = .present ∧
      pumpNumber .p3 ≤ (at_ .running .present).env.cfg.set.pumpsFitted ∧ (at_ .running .present).env.sys.mode ≠ .commission) ∧
    (at_ .off .present).plant.pumps.recs.p3.state = .off ∧ (at_ .called .present).plant.pumps.recs.p3.state = .called ∧
    (at_ .resting .present).plant.pumps.recs.p3.state = .resting ∧ two.env.cfg.set.pumpsFitted < pumpNumber .p3 := by
  decide +kernel

/-- In RUN, two called for, P2 CALLED and granted behind P1, the inlet IDLE exactly at P_open. -/
def readyToRun : State :=
  with_ (fun e => { e with sys := { e.sys with mode := .run }, level := { e.level with published := true, quality := .good } }) fun P => { P with
    pumps := { P.pumps with
      recs := P.pumps.recs.set .p2 { P.pumps.recs.p2 with state := .called, served := ⟨true, false, false, false⟩ }
      fillK := 2, limit := .none, inletRequest := true }
    guard := { P.guard with core := { P.guard.core with state := .normal, reason := .none } }
    load := { P.load with pumps := ⟨.idle, .granted .fill 1 1, .idle⟩ }
    valves := { P.valves with inlet := { P.valves.inlet with state := .idle, position := some 900, target := some 900, phase := none } } }
theorem witness_StartSpacingElapsed :
    guardSettled readyToRun.env readyToRun.plant ∧
    (readyToRun.plant.valves.inlet.state = .idle ∧ readyToRun.plant.valves.inlet.position = some 900 ∧
      readyToRun.plant.valves.inlet.target = some 900 ∧ readyToRun.env.cfg.set.pOpen ≤ 900) ∧
    readyToRun.plant.pumps.duty.take (min (max readyToRun.plant.pumps.fillK readyToRun.plant.pumps.boostK)
      readyToRun.plant.pumps.duty.length) = [.p1] ++ .p2 :: [] ∧ readyToRun.env.sys.mode ≠ .setup ∧
    readyToRun.plant.pumps.limit = .none ∧ readyToRun.plant.pumps.recs.p3.served = .empty ∧
    readyToRun.plant.pumps.recs.p1.state ≠ .off ∧
    ((readyToRun.plant.pumps.recs.get .p2).state = .called ∧ (readyToRun.plant.load.pumps.get .p2).isGranted = true) ∧
    (∀ q ∈ [Pump.p1], (readyToRun.plant.pumps.recs.get q).state ≠ .called) ∧
    guardSettled State.reset.env State.reset.plant ∧ State.reset.plant.valves.inlet.state ≠ .idle := by
  unfold guardSettled; decide +kernel
theorem witness_StartSpacingElapsed_none : ∀ p, (readyToRun.plant.pumps.recs.get p).state ≠ .starting := by
  intro p; cases p <;> decide +kernel

/-- The guard is settled at reset, whatever state a pump is in while no rate is known. -/
theorem witness_PumpTimers :
    let starting := pumped .p3 fun r => { r with state := .starting, run := some ⟨none, 0⟩ }
    let called := with_ id fun P => { P with
      pumps := { P.pumps with recs := P.pumps.recs.set .p3 { P.pumps.recs.p3 with served := ⟨true, false, false, false⟩ } }
      load := { P.load with pumps := ⟨.idle, .idle, .waiting .fill 1⟩ } }
    let sim := with_ (fun e => { e with sys := { e.sys with mode := .commission } }) fun P => { P with
      pumps := { P.pumps with recs := P.pumps.recs.set .p3 { P.pumps.recs.p3 with simFeedback := .present } } }
    (pumpNumber .p3 ≤ starting.env.cfg.set.pumpsFitted ∧ starting.env.sys.mode ≠ .commission ∧
      guardSettled starting.env starting.plant ∧ starting.env.level.rate = none ∧
      starting.plant.pumps.recs.p3.state = .starting ∧ starting.plant.pumps.recs.p3.served.circ = false ∧
      starting.env.pins.feedback.p3 = .absent ∧ (∀ q ∈ allPumps, (starting.plant.pumps.recs.get q).state ≠ .called)) ∧
    (guardSettled State.reset.env State.reset.plant ∧ State.reset.plant.pumps.recs.p3.state = .resting ∧
      State.reset.plant.pumps.recs.p3.served = .empty ∧ starting.plant.pumps.recs.p3.state ≠ .resting) ∧
    (guardSettled called.env called.plant ∧ called.plant.pumps.recs.p3.state = .resting ∧
      called.plant.pumps.recs.p3.served.any = true ∧
      (called.plant.load.pumps.get .p3).cls? = called.plant.pumps.recs.p3.callClass ∧ called.plant.valves.inlet.state ≠ .idle) ∧
    (∀ q ∈ allPumps, (State.reset.plant.pumps.recs.get q).state ≠ .running) ∧
    (pumped .p3 fun r => { r with state := .running }).plant.pumps.recs.p3.state = .running ∧
    (pumpNumber .p3 ≤ sim.env.cfg.set.pumpsFitted ∧ sim.env.sys.mode = .commission ∧
      sim.plant.pumps.recs.p3.simFeedback = .present ∧ sim.plant.pumps.recs.p3.state = .resting) := by
  unfold guardSettled; decide +kernel

/-- P3 at the edge of the pumps fitted, in OUT, in LOCKOUT off the duty list, and in neither. -/
theorem witness_LockUnlockPump :
    let at_ := fun st => with_ id fun P => { P with pumps := { P.pumps with
      recs := P.pumps.recs.set .p3 { P.pumps.recs.p3 with state := st }, duty := [.p1, .p2] } }
    let two := with_ (fun e => { e with cfg := { e.cfg with set := { e.cfg.set with pumpsFitted := 2 } } }) id
    (7 : Byte) ≠ 0 ∧ (at_ .out).clearToAnswer = true ∧ (at_ .out).env.sys.mode ≠ .commission ∧
    pumpNumber .p3 ≤ (at_ .out).env.cfg.set.pumpsFitted ∧ (at_ .out).plant.pumps.recs.p3.state = .out ∧
    ((at_ .lockout).plant.pumps.recs.p3.state = .lockout ∧ Pump.p3 ∉ (at_ .lockout).plant.pumps.duty) ∧
    (State.reset.plant.pumps.recs.p3.state ≠ .out ∧ State.reset.plant.pumps.recs.p3.state ≠ .lockout) ∧
    (inMode .commission).env.sys.mode = .commission ∧ two.env.cfg.set.pumpsFitted < pumpNumber .p3 ∧
    (3 < 4 ∧ 255 < 256) := by decide +kernel

/-- The lead pump P1: marked and not, called and not, with a rotation that pends and one that does not; an empty list; the lead pump
locked with a rotation that pends. -/
theorem witness_LockUnlockPump_rotation :
    let at_ := fun (m pending : Bool) (v : Served) => with_ id fun P => { P with pumps := { P.pumps with
      recs := P.pumps.recs.set .p1 { P.pumps.recs.p1 with state := .off, windowMark := m, served := v }
      duty := [.p1, .p2], rotationPending := pending } }
    let fill : Served := ⟨true, false, false, false⟩
    (at_ true false .empty).plant.pumps.duty = .p1 :: [.p2] ∧ Served.empty ≠ fill ∧
    ((at_ true false .empty).plant.pumps.recs.p1.windowMark = true ∧ (at_ true false .empty).plant.pumps.recs.p1.served = .empty) ∧
    (at_ false false .empty).plant.pumps.recs.p1.windowMark = false ∧ (at_ true false fill).plant.pumps.recs.p1.served ≠ .empty ∧
    ((at_ true true .empty).plant.pumps.rotationPending = true ∧ (at_ true false .empty).plant.pumps.rotationPending = false) ∧
    (with_ id fun P => { P with pumps := { P.pumps with duty := [] } }).plant.pumps.duty = [] ∧
    ((at_ true true fill).plant.pumps.duty.head? = some .p1 ∧ (at_ true true fill).plant.pumps.recs.p1.state ≠ .out ∧
      (after (.lockPump 7 [1, 0]) (at_ true true fill)).plant.pumps.rotationPending = false) := by decide +kernel

/-- P2 RUNNING with the inlet exactly at P_open and the guard in NORMAL; a command waits, and a step answers. -/
theorem witness_OnePumpStarts_promises :
    let r := { readyToRun with
      pending := [Instr.valveStep .inlet ⟨.opened, .opened⟩]
      plant := readyToRun.plant.setPump .p2 { readyToRun.plant.pumps.recs.p2 with state := .running } }
    PumpsSound r ∧ r.plant.cut = false ∧ (r.plant.pumps.recs.get .p2).state = .running ∧ RunsRightly r .p2 ∧
      step r = .next { r with pending := [] } := by
  intro r
  have h : RunsRightly r .p2 := by unfold RunsRightly; exact ⟨by decide +kernel, by decide +kernel, by decide +kernel,
    by decide +kernel, by decide +kernel, by decide +kernel, by decide +kernel, ⟨900, rfl, by decide +kernel⟩,
    ⟨900, rfl, by decide +kernel⟩⟩
  refine ⟨.inr ⟨⟨by decide +kernel, ?_⟩, by decide +kernel, ?_⟩, rfl, rfl, h, rfl⟩
  · intro p; unfold available; cases p <;> decide +kernel
  · intro p hp
    cases p with
    | p1 => exact absurd hp (by decide +kernel)
    | p2 => exact h
    | p3 => exact absurd hp (by decide +kernel)

/-- Nothing is called, starting or running at reset. -/
theorem witness_pumpsQuiet : pumpsQuiet State.reset.plant := by intro p; cases p <;> decide

/-- R89, R90: a closing dump drives its step output, direction closing, in SETUP, and neither output in COMMISSION. -/
theorem test_valve_outputs :
    let s := dump fun r => { r with state := .moving, position := some 5, target := some 0 }
    let c := { s.env with sys := { s.env.sys with mode := .commission } }
    let r := s.plant.valves.dump
    (r.stepOutput s.env, r.directionOutput s.env) = (true, some false) ∧
      (r.stepOutput c, r.directionOutput c) = (false, none) := by decide

/-- A valve at each edge of a clause: leaving 0, reaching the target from each side, the step that finds a stuck switch, the last
counts of a seek and of a back-off. -/
theorem witness_ValveSteps :
    let at_ := fun (x y : Nat) => inlet fun r =>
      { r with state := .moving, position := some x, target := some y, phase := none, owner := .host, op := some ⟨7, 0x28⟩ }
    let free := fun (x y : Nat) => dump fun r => { r with state := .moving, position := some x, target := some y }
    let stuck := dump fun r => { r with state := .moving, position := some 5, target := some 9, stuck := some 29 }
    State.reset.env.sys.mode ≠ .commission ∧ (at_ 1 0).env.sys.mode ≠ .commission ∧
    (State.reset.plant.valves.dump.state ≠ .moving ∧ State.reset.plant.valves.dump.state ≠ .homing) ∧
    ((free 0 9).plant.valves.dump.state = .moving ∧ (free 0 9).plant.valves.dump.position = some 0 ∧
      (free 0 9).plant.valves.dump.target = some 9 ∧ (free 0 9).plant.valves.dump.seat = none ∧
      (free 0 9).plant.valves.dump.fromFault = false ∧ (free 0 9).plant.valves.dump.stuck = none ∧ 0 + 1 ≠ 9) ∧
    ((free 3 1).plant.valves.dump.position = some 3 ∧ 1 < 3 ∧ 3 ≠ 1 + 1) ∧
    ((free 0 1).plant.valves.dump.op = none ∧ 0 + 1 = 1) ∧
    ((at_ 2 1).plant.valves.inlet.op = some ⟨7, 0x28⟩ ∧ (at_ 2 1).plant.valves.inlet.owner = .host ∧ 2 = 1 + 1 ∧ 0 < 1) ∧
    (stuck.plant.valves.dump.stuck = some 29 ∧ 30 ≤ 29 + 1 ∧ 5 < 9) ∧
    ((inlet fun r => { r with phase := some (.seek 1098) }).plant.valves.inlet.phase = some (.seek 1098) ∧ 1098 + 1 < 1100 ∧
      (inlet id).plant.valves.inlet.state = .homing) ∧
    ((inlet fun r => { r with phase := some (.backOff 48) }).plant.valves.inlet.phase = some (.backOff 48) ∧ 48 + 1 < 50) := by
  decide +kernel
/-- A first step, of a move that opens and of a homing; a closing move that meets the end-stop at 21 and at 22, with VALVE_SLIP QUIET; the
step to 0 that finds it OPEN; the last counts of a seat search, a seek and a back-off; a homing from FAULT that succeeds. -/
theorem witness_ValveSteps_ends :
    let first := dump fun r => { r with state := .moving, position := some 5, target := some 9, unread := true }
    let slip := fun x => dump fun r => { r with state := .moving, position := some x, target := some 3, phase := none }
    let seat := fun n => dump fun r => { r with state := .moving, position := some 0, target := some 0, seat := some n }
    let home := fun p => dump fun r => { r with state := .homing, fromFault := true, phase := some p }
    (first.plant.valves.dump.unread = true ∧ first.plant.valves.dump.state = .moving ∧ 5 < 9) ∧
    (State.reset.plant.valves.inlet.state = .homing ∧ State.reset.plant.valves.inlet.op = none ∧
      State.reset.plant.valves.inlet.fromFault = false ∧ State.reset.plant.valves.inlet.owner ≠ .pumps) ∧
    ((slip 21).plant.valves.dump.position = some 21 ∧ (slip 21).plant.valves.dump.op = none ∧ 3 < 21 ∧ 21 ≤ 21) ∧
    ((slip 22).plant.valves.dump.position = some 22 ∧ 21 < 22 ∧ ((slip 22).plant.alarms.get .valveSlip).state = .quiet ∧
      (slip 22).plant.alarms.table.length = 24) ∧
    (let s := dump fun r => { r with state := .moving, position := some 1, target := some 0, phase := none }
     s.plant.valves.dump.position = some 1 ∧ s.plant.valves.dump.target = some 0 ∧ s.plant.valves.dump.seat = none) ∧
    ((seat 48).plant.valves.dump.seat = some 48 ∧ 48 + 1 < 50 ∧ (seat 49).plant.valves.dump.seat = some 49 ∧ 50 ≤ 49 + 1) ∧
    ((home (.backOff 49)).plant.valves.dump.phase = some (.backOff 49) ∧ 50 ≤ 49 + 1) ∧
    ((home (.seek 1099)).plant.valves.dump.phase = some (.seek 1099) ∧ 1100 ≤ 1099 + 1 ∧
      (home (.seek 1099)).plant.valves.dump.fromFault = true ∧ (home (.seek 1099)).plant.valves.dump.saved = none) := by
  decide +kernel

/-- In COMMISSION, a stem one step above the closed end. The pumps' own homing of the inlet that meets the closed end. In RUN, the step
that brings the inlet to P_fill with P2 CALLED and granted, no pump in motion, the spacing elapsed. -/
theorem witness_ValveSteps_inlet :
    let sim := with_ (fun e => { e with sys := { e.sys with mode := .commission } }) fun P => { P with
      valves := { P.valves with dump := { P.valves.dump with state := .moving, position := some 5, target := some 0, stem := 1 } } }
    let homing := inlet fun r => { r with owner := .pumps, phase := some (.seek 9), unread := false, waiting := some .pFill }
    let asked := { homing with plant := { homing.plant with pumps := { homing.plant.pumps with inletRequest := true } } }
    let opening := { readyToRun with plant := (readyToRun.plant.setValve .inlet
      { readyToRun.plant.valves.inlet with state := .moving, position := some 999, target := some 1000, unread := false }) }
    (sim.env.sys.mode = .commission ∧ sim.plant.valves.dump.state = .moving ∧ sim.plant.valves.dump.position = some 5 ∧
      sim.plant.valves.dump.seat = none ∧ sim.plant.valves.dump.stem - 1 ≤ 0) ∧
    (asked.env.sys.mode ≠ .commission ∧ asked.plant.pumps.inletRequest = true ∧ asked.plant.valves.inlet.state = .homing ∧
      asked.plant.valves.inlet.unread = false ∧ asked.plant.valves.inlet.owner = .pumps ∧ asked.plant.valves.inlet.target = none ∧
      asked.plant.valves.inlet.op = none ∧ asked.plant.valves.inlet.fromFault = false ∧ 0 < asked.env.cfg.set.pFill ∧
      (∀ q ∈ allPumps, (asked.plant.pumps.recs.get q).state = .resting)) ∧
    (opening.env.sys.mode = .run ∧ guardSettled opening.env opening.plant ∧ opening.env.cfg.set.pFill = 1000 ∧
      opening.env.cfg.set.pOpen ≤ 1000 ∧ opening.plant.pumps.duty.take 2 = [.p1] ++ .p2 :: [] ∧
      (opening.plant.pumps.recs.get .p2).state = .called ∧ (opening.plant.load.pumps.get .p2).isGranted = true ∧
      (opening.plant.pumps.recs.get .p1).state = .resting ∧ (opening.plant.pumps.recs.get .p3).served = .empty ∧
      (opening.plant.pumps.recs.get .p2).served ≠ .empty ∧ opening.env.cfg.set.startSpacing ≤ opening.plant.pumps.spacing ∧
      opening.plant.pumps.inletRequest = true ∧ opening.plant.valves.inlet.position = some (1000 - 1) ∧
      opening.plant.valves.inlet.unread = false ∧ opening.plant.valves.inlet.seat = none ∧
      opening.plant.valves.inlet.stuck = none ∧ opening.plant.valves.inlet.op = none ∧
      opening.plant.valves.inlet.fromFault = false) := by
  unfold guardSettled; decide +kernel

/-- A free dump away from its target and at it, the values of m next to 1000, and each refusal. -/
theorem witness_MoveValve :
    let d := dump fun r => { r with state := .idle, position := some 1000, target := some 1000 }
    (7 : Byte) ≠ 0 ∧ 1001 < 65536 ∧ d.clearToAnswer = true ∧ doneLoad d.env.sys d.plant < 4 ∧ d.env.sys.mode ≠ .commission ∧
    d.plant.valves.dump.owner ≠ .pumps ∧ d.plant.valves.dump.owner ≠ .guard ∧ d.plant.guard.core.state = .normal ∧
    d.plant.valves.dump.position ≠ none ∧ d.plant.valves.dump.state = .idle ∧ d.plant.valves.dump.fromFault = false ∧
    d.plant.valves.dump.op = none ∧ min 1000 999 ≠ 1000 ∧ d.plant.valves.dump.position = some (min 1000 1001) ∧
    State.reset.plant.valves.inlet.owner = .guard ∧ State.reset.plant.valves.dump.position = none := by decide +kernel

/-- A dump of the station computer MOVING from 5 to 9, its operation in flight: a target beyond, one behind, and where it stands. -/
theorem witness_MoveValve_moving :
    let d := dump fun r => { r with state := .moving, position := some 5, target := some 9, owner := .host, op := some ⟨3, 0x28⟩ }
    let r := d.plant.valves.dump
    let done := fun m => (after (.moveValve 7 ([1] ++ u16 m ++ [0])) d).plant.telem.queue.drop d.plant.telem.queue.length
    (r.state = .moving ∧ r.fromFault = false ∧ r.position = some 5 ∧ r.seat = none ∧ r.owner = .host ∧ r.op = some ⟨3, 0x28⟩) ∧
    d.plant.guard.core.state = .normal ∧ doneLoad d.env.sys d.plant < 4 ∧
    (r.target = some 9 ∧ 5 < 9 ∧ 5 < min 1000 6 ∧ ¬ 5 < min 1000 4 ∧ min 1000 5 = 5) ∧
    done 6 = [⟨.done, 3, [2, 0x28, 1, 2, 0, 5, 0, 0]⟩] ∧
    done 5 = [⟨.done, 3, [2, 0x28, 1, 2, 0, 5, 0, 0]⟩, ⟨.done, 7, [0, 0x28, 1, 1, 0, 5, 0, 0]⟩] := by decide +kernel

/-- A dump at rest with each end-stop; a move and a homing of the station computer to stop; a valve of no owner. -/
theorem witness_HomeAndStopValve :
    let rest := fun k => dump fun r => { r with endStop := k }
    let moving := dump fun r => { r with state := .moving, position := some 5, target := some 9, owner := .host, op := some ⟨7, 0x28⟩ }
    let homing := dump fun r => { r with state := .homing, phase := some (.seek 3), owner := .host, op := some ⟨7, 0x29⟩ }
    (7 : Byte) ≠ 0 ∧ (rest .closed).clearToAnswer = true ∧ doneLoad (rest .closed).env.sys (rest .closed).plant < 4 ∧
    ((rest .closed).env.sys.mode ≠ .commission ∧ (rest .closed).plant.valves.dump.owner ≠ .pumps ∧
      (rest .closed).plant.valves.dump.owner ≠ .guard ∧ (rest .closed).plant.guard.core.state = .normal) ∧
    ((rest .closed).plant.valves.dump.op = none ∧ (rest .closed).plant.valves.dump.fromFault = false ∧
      (rest .closed).plant.valves.dump.state ≠ .moving ∧ (rest .closed).plant.valves.dump.state ≠ .homing ∧
      (rest .closed).plant.valves.dump.endStop = .closed ∧ (rest .opened).plant.valves.dump.endStop ≠ .closed) ∧
    (inMode .commission).env.sys.mode = .commission ∧
    (moving.plant.valves.dump.owner = .host ∧ moving.plant.valves.dump.op = some ⟨7, 0x28⟩ ∧
      moving.plant.valves.dump.state = .moving ∧ moving.plant.valves.dump.position = some 5 ∧
      moving.plant.valves.dump.seat = none ∧ moving.plant.valves.dump.fromFault = false) ∧
    (homing.plant.valves.dump.state = .homing ∧ homing.plant.valves.dump.op = some ⟨7, 0x29⟩) ∧
    (rest .closed).plant.valves.dump.owner ≠ .host := by decide +kernel

/-- A dump MOVING and one HOMING for the station computer, an operation in flight on each, that a HOME VALVE takes over. -/
theorem witness_HomeAndStopValve_moving :
    let moving := dump fun r => { r with state := .moving, position := some 5, target := some 9, owner := .host, op := some ⟨3, 0x28⟩ }
    let homing := dump fun r => { r with state := .homing, phase := some (.seek 3), owner := .host, op := some ⟨3, 0x29⟩ }
    let left := fun s => (after (.homeValve 7 [1, 0]) s).plant.valves.dump
    (moving.plant.valves.dump.state ≠ .homing ∧ moving.plant.valves.dump.fromFault = false ∧
      moving.plant.valves.dump.op = some ⟨3, 0x28⟩ ∧ doneLoad moving.env.sys moving.plant < 4) ∧
    (homing.plant.valves.dump.state = .homing ∧ homing.plant.valves.dump.op = some ⟨3, 0x29⟩) ∧
    ((left moving).state = .homing ∧ (left moving).op = some ⟨7, 0x29⟩) ∧ (left homing).phase = some (.seek 3) := by decide +kernel

/-- The night of the plan at a level, the topped mark as given. -/
def nightAt (l : Nat) (topped : Bool) : State :=
  { night with
    env := { night.env with level := { night.env.level with filtered := l, held := l } }
    plant := { night.plant with fill := { night.plant.fill with plan := { night.plant.fill.plan with topped := topped } } } }

/-- Each line of R95's table; the level at the fill target and one below it, the topped mark kept at the edge of the refill band and
gone below it; with minutes to spare and with none; no geometry; and the figures of a FILLING state. -/
theorem witness_FillTimersAndInflow_plan :
    let c := night.env.cfg.set
    let e := night.env
    let P := night.plant
    let dear := { e with clock := { e.clock with tariff := .dear } }
    let blind := { e with level := { e.level with quality := .invalid } }
    let faulted := P.setValve .inlet { P.valves.inlet with state := .fault }
    let short := { e with clock := { e.clock with minute := 3240 - c.margin } }
    let shut := P.setCore { P.guard.core with state := .shut }
    let r := handle .planEval e P
    Env.reset.level.published = false ∧ Env.reset.cfg.geometry = none ∧
    (State.reset.env.sys.mode ≠ .run ∧ (levelled 9 .good).env.level.published = true) ∧
    (e.level.published = true ∧ e.sys.mode = .run ∧ shut.guard.core.state = .shut ∧ P.guard.core.state = .normal) ∧
    dear.clock.tariff ≠ .cheap ∧ e.clock.tariff = .cheap ∧ (P.setPumps { P.pumps with duty := [] }).pumps.duty = [] ∧
    P.pumps.duty ≠ [] ∧ faulted.valves.inlet.state = .fault ∧ P.valves.inlet.state ≠ .fault ∧ P.valves.inlet.fromFault = false ∧
    blind.level.quality = .invalid ∧ e.level.quality ≠ .invalid ∧
    (c.fillTarget ≤ (nightAt 13200 false).env.level.filtered ∧ (nightAt 13199 false).env.level.filtered < c.fillTarget) ∧
    ((nightAt (13200 - c.refillBand) true).env.level.filtered + c.refillBand = c.fillTarget ∧
      (nightAt (13199 - c.refillBand) true).env.level.filtered + c.refillBand < c.fillTarget) ∧
    e.cfg.geometry = some (bowl.take 5) ∧ min 1440 (tRem short.cfg short.clock - c.margin) = 0 ∧
    0 < min 1440 (tRem e.cfg e.clock - c.margin) ∧
    (r.1.fill.plan.state = .filling ∧ r.1.pumps.fillK = 1 ∧ ((P.pumps.duty.take 1).map c.delivery.get).sum = 1100) := by
  decide +kernel

/-- The night of the plan seen by the tariff line: a change of the line that waits, to CLOSED or to OPEN, the window's seconds given. -/
def lineNight (closed : Bool) (secs : Nat) : State :=
  { night with
    env := { night.env with
      cfg := { night.env.cfg with set := { night.env.cfg.set with source := .line } }
      clock := { night.env.clock with
        line := if closed then .closed else .opened, lineDebounce := some 59, tariff := if closed then .cheap else .dear } }
    plant := { night.plant with fill := { night.plant.fill with
      window := ⟨some 800000, 1, 300000, true⟩, windowOpen := closed, minuteSecs := secs } } }

/-- A window start, and a window end with an expiry of the minute timer due and without, learnt from and not. -/
theorem witness_FillTimersAndInflow_windows :
    (let s := lineNight false 0
     s.env.cfg.set.source = .line ∧ s.env.clock.lineDebounce.isSome = true ∧ s.env.clock.line = .opened ∧ s.env.clock.tariff ≠ .cheap ∧
     (after .tariffDebounceExpiry s).plant.cut = false) ∧
    (let s := lineNight true 60
     s.env.cfg.set.source = .line ∧ s.env.clock.lineDebounce.isSome = true ∧ s.env.clock.line = .closed ∧ s.env.clock.tariff = .cheap ∧
     s.plant.alarms.table.length = 24 ∧ 60 ≤ s.plant.fill.minuteSecs ∧ s.plant.fill.window.usable = true ∧
     s.env.level.quality = .good ∧ s.env.cfg.geometry = some (bowl.take 5) ∧ s.plant.fill.window.startVolume = some 800000 ∧
     (after .tariffDebounceExpiry s).plant.cut = false) ∧
    (lineNight true 59).plant.fill.minuteSecs < 60 ∧ night.plant.fill.window.usable = false := by decide +kernel

/-- A window that ends in BLIND_FILL with a pump running for fill and an expiry of the minute timer due. -/
theorem witness_FillTimersAndInflow_ends :
    let s := lineNight true 60
    let P := s.plant
    let run : PumpRec := { P.pumps.recs.p1 with state := .running, served := ⟨true, false, false, false⟩ }
    let P := P.setPumps { P.pumps with recs := P.pumps.recs.set .p1 run }
    let s := s.setPlant (P.setFill { P.fill with plan := { P.fill.plan with state := .blindFill } })
    60 ≤ s.plant.fill.minuteSecs ∧ s.plant.fill.plan.state = .blindFill ∧ (s.plant.pumps.recs.get .p1).state = .running ∧
      (s.plant.pumps.recs.get .p1).served.fill = true ∧ s.env.clock.tariff = .cheap ∧ s.env.clock.line = .closed := by
  decide +kernel

/-- A closed and an open window, a pump running for fill in BLIND_FILL and one still STARTING, each mode, and a LOW float of each reading. -/
theorem witness_FillTimersAndInflow :
    let blind := with_ id fun P => { P with
      fill := { P.fill with windowOpen := true, plan := { P.fill.plan with state := .blindFill } }
      pumps := { P.pumps with recs := P.pumps.recs.set .p1 { P.pumps.recs.p1 with state := .running, served := ⟨true, false, false, false⟩ } } }
    let waits := blind.setPlant (blind.plant.setPump .p1 { blind.plant.pumps.recs.p1 with state := .starting })
    let sim := with_ (fun e => { e with sys := { e.sys with mode := .commission, sim := { e.sys.sim with inflowRate := 65535 } } }) id
    let dry := with_ (fun e => { e with level := { e.level with low := ⟨.dry, none⟩ } }) id
    State.reset.plant.fill.windowOpen = false ∧ blind.plant.fill.windowOpen = true ∧
    (blind.plant.pumps.recs.p1.state = .running ∧ blind.plant.pumps.recs.p1.served.fill = true ∧
      blind.plant.fill.plan.state = .blindFill) ∧
    (waits.plant.fill.windowOpen = true ∧ waits.plant.fill.plan.state = .blindFill ∧
      ∀ p ∈ allPumps, (waits.plant.pumps.recs.get p).state ≠ .running) ∧
    (night.plant.fill.windowOpen = true ∧ night.plant.fill.plan.state ≠ .blindFill) ∧ State.reset.env.sys.mode ≠ .commission ∧
    (sim.env.sys.mode = .commission ∧ sim.env.sys.sim.inflowRate ≠ 0) ∧ dry.env.level.low.reported = .dry ∧
    (State.reset.env.level.low.reported = .wet ∧ State.reset.env.level.published = false) ∧
    (levelled 1 .invalid).env.level.quality = .invalid := by decide +kernel

/-- A level just under the clamped boost level, the trip latch and the high-high mark clear; a mode that is not RUN; a boost. -/
theorem witness_BoostRequests :
    let s := { night with env := { night.env with level := { night.env.level with filtered := 13699, held := 13699 } } }
    let boosted := with_ id fun P => { P with fill := { P.fill with boost := some ⟨9000, 1⟩ } }
    (7 : Byte) ≠ 0 ∧ 65535 < 65536 ∧ 255 < 256 ∧ s.clearToAnswer = true ∧
    (s.env.sys.mode = .run ∧ s.env.level.published = true ∧ s.env.level.quality ≠ .invalid ∧ s.plant.guard.core.state ≠ .shut ∧
      s.plant.guard.core.state ≠ .trip ∧ s.env.level.filtered < min (s.env.cfg.set.lHigh - 100) 65535) ∧
    s.plant.guard.core.latch = false ∧ s.plant.guard.core.highHigh = false ∧ State.reset.env.sys.mode ≠ .run ∧
    State.reset.plant.fill.boost = none ∧ boosted.plant.fill.boost.isSome = true ∧ boosted.clearToAnswer = true := by
  decide +kernel

/-- A boost to 9000 at a sample that publishes: GOOD at its level and one below, GOOD at L_hh, INVALID, and HELD at L_hh, which brings
the guard into SHUT; and a sample that publishes nothing. -/
theorem witness_BoostRequests_samples :
    let at_ := fun (l : Nat) (q : Quality) (f : Nat) => { night with
      env := { night.env with level := { night.env.level with
        filtered := l, held := l, window := List.replicate 5 l, published := true, quality := q, faultRun := f } }
      plant := { night.plant with fill := { night.plant.fill with boost := some ⟨9000, 1⟩ } } }
    let ends := fun (raw : BitVec 12) s => (after (.transducerSample raw) s).plant.fill.boostEnd
    let still := fun (raw : BitVec 12) s => (after (.transducerSample raw) s).plant.fill.boost
    (at_ 9000 .good 0).plant.fill.boost = some ⟨9000, 1⟩ ∧
    ends 2662 (at_ 9000 .good 0) = some .reached ∧ still 2661 (at_ 8999 .good 0) = some ⟨9000, 1⟩ ∧
    ends 3800 (at_ 14300 .good 0) = some .reached ∧ ends 654 (at_ 8999 .held 239) = some .invalid ∧
    ends 654 (at_ 14200 .held 0) = some .guard ∧
    still 654 { State.reset with plant := (at_ 1 .good 0).plant } = some ⟨9000, 1⟩ := by decide +kernel

/-- The OVER float waiting to turn WET, the latch clear outside TRIP, and the latch set in TRIP for OVER. -/
theorem witness_OverWetTrips :
    let at_ := fun f => with_ (fun e => { e with level := { e.level with overFloat := ⟨.dry, some 2⟩ } })
      fun P => { P with guard := { P.guard with core := f P.guard.core } }
    let tripped := at_ fun k => { k with latch := true, state := .trip, reason := .overFloat }
    ((at_ id).env.level.overFloat.reported = .dry ∧ (at_ id).env.level.overFloat.debounce.isSome = true ∧
      (at_ id).plant.guard.core.latch = false ∧ (at_ id).plant.guard.core.state ≠ .trip) ∧
    (tripped.env.level.overFloat.reported = .dry ∧ tripped.env.level.overFloat.debounce.isSome = true ∧
      tripped.plant.guard.core.latch = true ∧ tripped.plant.guard.core.state = .trip ∧ tripped.plant.guard.core.reason = .overFloat) := by
  decide +kernel

/-- The station computer's moves of both valves, which the trip takes: each ends with DONE PREEMPTED, and no chain is cut. -/
theorem witness_OverWetTrips_preempts :
    let s := with_ (fun e => { e with level := { e.level with published := true, quality := .good, overFloat := ⟨.dry, some 2⟩ } })
      fun P => { P with
        guard := { P.guard with core := { P.guard.core with state := .normal, reason := .none, inletHold := none } }
        valves := ⟨{ P.valves.inlet with state := .moving, position := some 5, target := some 9, owner := .host, op := some ⟨3, 0x28⟩ },
          { P.valves.dump with state := .idle, position := some 8, target := some 8, owner := .host, op := some ⟨4, 0x28⟩ }⟩ }
    let t := after (.floatDebounceExpiry .overFloat) s
    s.plant.guard.core.latch = false ∧ s.plant.guard.core.state ≠ .trip ∧ s.plant.guard.core.state ≠ .shut ∧ t.plant.cut = false ∧
    (⟨.done, 3, [3, 0x28, 0, 2, 0, 5, 0, 0]⟩ : Notice) ∈ t.plant.telem.queue ∧
    (⟨.done, 4, [3, 0x28, 1, 1, 0, 8, 0, 0]⟩ : Notice) ∈ t.plant.telem.queue := by decide +kernel

/-- Each timer stopped and running; for the run-on timer, the dump open at its first step. -/
theorem witness_GuardTimers :
    let release := with_ (fun e => { e with level := { e.level with published := true } })
      fun P => { P with guard := { P.guard with core := { P.guard.core with release := ⟨true, 59⟩, high := true } } }
    let runOn := with_ id fun P => { P with
      guard := { P.guard with core := { P.guard.core with runOn := ⟨true, 119⟩ } }
      valves := { P.valves with dump := { P.valves.dump with state := .idle, position := some 1, target := some 1, owner := .guard } } }
    State.reset.plant.guard.core.release.running = false ∧
    (release.plant.guard.core.release.running = true ∧ release.plant.guard.core.latch = false ∧
      release.env.level.published = true ∧ release.env.level.quality ≠ .invalid ∧ release.plant.guard.core.high = true) ∧
    State.reset.plant.guard.core.runOn.running = false ∧
    (runOn.plant.guard.core.runOn.running = true ∧ runOn.plant.valves.dump.state = .idle ∧
      runOn.plant.valves.dump.position = some 1 ∧ runOn.plant.valves.dump.owner = .guard ∧ runOn.plant.valves.dump.op = none ∧
      runOn.plant.valves.dump.fromFault = false) ∧
    State.reset.plant.guard.core.autoClear.running = false ∧
    (guarded fun k => { k with autoClear := ⟨true, 29⟩ }).plant.guard.core.autoClear.running = true := by decide +kernel

/-- Publications that bring the level exactly to L_high, and to one below the edge of the hysteresis, with the marks set and not; the
high-high release; a sample that publishes nothing. -/
theorem witness_GuardTimers_marks :
    let c := Settings.factory
    let at_ := fun (n : Nat) (f : GuardCore → GuardCore) => with_
      (fun e => { e with level := { e.level with
        published := true, quality := .good, filtered := n, held := n, goodRun := 9, window := [n, n, n, n, n] } })
      fun P => { P with guard := { P.guard with core := f P.guard.core } }
    let high := after (.transducerSample 2000) (at_ c.lHigh id)
    let freed := after (.transducerSample 2000) (at_ (c.lHh - c.hysteresis - 1) fun k => { k with highHigh := true })
    let first := after (.transducerSample 2000) State.reset
    ((at_ c.lHigh id).plant.alarms.table.length = 24 ∧ high.env.level.quality = .good ∧ high.env.level.filtered = c.lHigh ∧
      high.plant.guard.core.high = true ∧ high.plant.cut = false) ∧
    (freed.env.level.quality = .good ∧ freed.env.level.filtered + c.hysteresis < c.lHh ∧ freed.plant.guard.core.highHigh = true ∧
      freed.plant.guard.core.release = ⟨true, 0⟩) ∧
    (first.env.level.published = false ∧ State.reset.env.level.published = false) := by decide +kernel

/-- A latch with the float DRY and a level one below the bound of R128, with no level published, and the latch clear. -/
theorem witness_ClearTrip :
    let s := with_ (fun e => { e with level := { e.level with published := true, quality := .good, filtered := 13599 } })
      fun P => { P with guard := { P.guard with core := { P.guard.core with latch := true } } }
    (7 : Byte) ≠ 0 ∧ s.clearToAnswer = true ∧
    (s.plant.guard.core.latch = true ∧ s.env.level.overFloat.reported = .dry ∧
      s.env.level.filtered + s.env.cfg.set.hysteresis < s.env.cfg.set.lHigh) ∧
    ((guarded fun k => { k with latch := true }).plant.guard.core.latch = true ∧
      (guarded fun k => { k with latch := true }).env.level.published = false) ∧
    State.reset.plant.guard.core.latch = false := by decide +kernel

/-- The event's hand-overs are carried out to their end, with readings at the ends of the good range. -/
theorem witness_SensorReads : State.reset.env.sys.mode ≠ .commission ∧
    (after (.sensorRead (some (-550)) (some (-551)) (some 1250) (some 1251) none) State.reset).plant.cut = false := by
  decide +kernel

/-- In COMMISSION a real read that is cold and one that is not; the third bad read and the third good one; a zone to judge in each
state, and its class and duty in FALLBACK with the air reading at 2.9 and 3.0 degrees. -/
theorem witness_SensorReads_zones :
    let com := inMode .commission
    let c := com.env.cfg.set.zone.z1
    let at_ := fun (r : ZoneRec) (x : Sensor) (k : Claim) (air : Int) => with_ id fun P => { P with
      frost := { P.frost with zones := P.frost.zones.set .z1 r, sensors := P.frost.sensors.set .z1 x, air := ⟨some air, false, 0, 3⟩ }
      load := { P.load with zones := P.load.zones.set .z1 k } }
    let off := at_ { ZoneRec.reset with timer := 60 } ⟨some (c.onBelow - 1), false, 0, 0⟩ .idle 0
    let want := at_ { ZoneRec.reset with state := .want } ⟨some c.offAbove, false, 0, 0⟩ (.waiting .warm 1) 0
    let heat := at_ { ZoneRec.reset with state := .heat, timer := 120 } ⟨some c.offAbove, false, 0, 0⟩ (.granted .warm 1 1) 0
    let fall := fun air k => at_ { ZoneRec.reset with state := .fallback, fallback := some ⟨true, 0, 0⟩ } ⟨none, true, 3, 2⟩ k air
    (com.env.sys.mode = .commission ∧ (com.env.cfg.set.zone.get .z1).enabled = true ∧ (19 : Int) < c.onBelow ∧ c.onBelow ≤ 20) ∧
    (off.plant.frost.zones.z1.state = .off ∧ off.plant.frost.zones.z1.timer = 60 ∧ (want.plant.load.zones.z1).isGranted = false ∧
      want.plant.frost.zones.z1.boost = false ∧ heat.plant.frost.zones.z1.timer = 120 ∧
      (heat.plant.load.zones.z1).isGranted = true ∧ c.onBelow ≤ c.offAbove) ∧
    ((fall 29 .idle).plant.frost.zones.z1.state = .fallback ∧ (fall 29 .idle).plant.frost.air.reading = some 29 ∧
      (fall 30 (.granted .warm 1 1)).plant.load.zones.z1.isGranted = true ∧ (fall 30 (.waiting .warm 1)).plant.load.zones.z1 = .waiting .warm 1 ∧
      (fall 30 .idle).plant.frost.air.reading = some 30 ∧ (fall 29 .idle).plant.frost.sensors.z1.faulted = true ∧
      2 ≤ (fall 29 .idle).plant.frost.sensors.z1.goodRun) ∧
    (let s := at_ ZoneRec.reset ⟨some 40, false, 2, 0⟩ .idle 0
     (s.env.cfg.set.zone.get .z1).enabled = true ∧ (s.plant.frost.sensors.get .z1).faulted = false ∧
      2 ≤ (s.plant.frost.sensors.get .z1).badRun) := by decide +kernel

/-- A WARM zone in HEAT exactly at its off point; a zone in OFF exactly at its critical temperature, with no room to spare; the
other states; a zone one minute short of FREEZE. -/
theorem witness_ZoneTimers :
    let at_ := fun (r : ZoneRec) (t : Int) (k : Claim) (cap : Nat) => with_ id fun P => { P with
      frost := { P.frost with zones := P.frost.zones.set .z1 r, sensors := P.frost.sensors.set .z1 ⟨some t, false, 0, 0⟩ }
      load := { P.load with zones := P.load.zones.set .z1 k, cap := cap } }
    let warm := at_ { ZoneRec.reset with state := .heat } 40 (.granted .warm 1 1) 400
    let cold := at_ { ZoneRec.reset with timer := 59 } 0 .idle 50
    let back := at_ { ZoneRec.reset with state := .fallback, fallback := some ⟨true, 9, 59⟩ } 0 .idle 400
    let freezing := at_ { ZoneRec.reset with freeze := 9 } (-1) .idle 400
    let quiet := fun s : State => (∀ p ∈ allPumps, s.plant.load.pumps.get p = .idle) ∧
      ∀ z ∈ [Zone.z2, .z3, .z4], s.plant.load.zones.get z = .idle
    (warm.plant.frost.zones.z1.state = .heat ∧ warm.plant.frost.zones.z1.boost = false ∧
      warm.plant.frost.sensors.z1 = ⟨some 40, false, 0, 0⟩ ∧ warm.env.cfg.set.zone.z1.offAbove ≤ 40 ∧
      warm.plant.load.zones.z1 = .granted .warm 1 1 ∧ quiet warm) ∧
    (cold.plant.frost.zones.z1.state = .off ∧ cold.plant.frost.sensors.z1 = ⟨some 0, false, 0, 0⟩ ∧
      0 < cold.env.cfg.set.zone.z1.onBelow ∧ cold.env.cfg.set.zone.z1.critical ≤ 0 ∧ cold.plant.load.zones.z1 = .idle ∧ quiet cold ∧
      cold.plant.load.claimCounter < 4294967295 ∧ cold.plant.load.grantCounter < 4294967295 ∧
      grantedSum cold.env.cfg.set cold.plant.load + cold.env.cfg.set.zoneRating.z1 ≤ cold.plant.load.cap ∧
      (∀ y ∈ allZones, (cold.plant.frost.zones.get y).freeze ≠ 10) ∧ (cold.plant.alarms.get .freeze).state.present = false) ∧
    (back.plant.frost.zones.z1.state = .fallback ∧ back.plant.frost.zones.z1.fallback = some ⟨true, 9, 59⟩) ∧
    (freezing.env.cfg.set.zone.z1.enabled = true ∧ freezing.plant.frost.sensors.z1.faulted = false ∧
      -1 < freezing.env.cfg.set.zone.z1.critical ∧ freezing.plant.frost.zones.z1.state ≠ .heat ∧
      freezing.plant.alarms.table.length = 24) ∧
    State.reset.plant.frost.sensors.z1.reading = none := by decide +kernel

/-- Each state of circulation; wanted exactly at the stagnation limit, with no level, and not wanted. -/
theorem witness_CircTimers :
    let at_ := fun st (t : Int) => with_ id fun P => { P with frost := { P.frost with
      circ := { P.frost.circ with state := st }, sensors := P.frost.sensors.set .z2 ⟨some t, false, 0, 3⟩ } }
    (at_ .run 9).plant.frost.circ.state = .run ∧ (at_ .demanded 9).plant.frost.circ.state = .demanded ∧
    (at_ .refused 9).plant.frost.circ.state = .refused ∧ State.reset.plant.frost.circ.state = .quiet ∧
    ((at_ .refused 9).env.cfg.set.zone.z2.enabled = true ∧ (at_ .refused 9).plant.frost.sensors.z2.faulted = false ∧
      9 < (at_ .refused 9).env.cfg.set.circBelow ∧
      (at_ .refused 9).env.cfg.set.stagnationLimit ≤ (at_ .refused 9).plant.pumps.stagnation ∧
      (at_ .refused 9).env.level.published = false) ∧
    ((at_ .refused 10).env.cfg.set.circBelow ≤ 10 ∧ (at_ .refused 10).plant.frost.sensors.z1.reading = none) := by decide +kernel

/-- A frost evening in RUN: the riser of Z2 cold, the level at the most that leaves the headroom, the guard in NORMAL. -/
def coldEvening (l : Nat) (k : CircState) : State :=
  with_ (fun e => { e with level := { e.level with published := true, quality := .good, filtered := l, held := l }
                           sys := { e.sys with mode := .run } })
    fun P => { P with
      frost := { P.frost with circ := { P.frost.circ with state := k }, sensors := P.frost.sensors.set .z2 ⟨some 9, false, 0, 3⟩ }
      guard := { P.guard with core := { P.guard.core with state := .normal, reason := .none } } }

/-- The allowance test passes with the headroom exactly kept, after a refusal and while QUIET; each of its tests fails; Z2 enters
frost boost. -/
theorem witness_CircTimers_test :
    let most := Settings.factory.lHigh - Settings.factory.circHeadroom
    let s := coldEvening most .refused
    let q := coldEvening most .quiet
    (s.plant.frost.circ.state = .refused ∧ q.plant.frost.circ.state = .quiet ∧ s.env.cfg.set.zone.z2.enabled = true ∧
      s.plant.frost.sensors.z2 = ⟨some 9, false, 0, 3⟩ ∧ 9 < s.env.cfg.set.circBelow ∧
      s.env.cfg.set.stagnationLimit ≤ s.plant.pumps.stagnation) ∧
    (s.env.level.published = true ∧ s.env.level.quality = .good ∧
      s.env.level.filtered + s.env.cfg.set.circHeadroom ≤ s.env.cfg.set.lHigh ∧ s.plant.guard.core.state = .normal ∧
      s.plant.pumps.duty ≠ [] ∧ s.env.sys.mode ≠ .setup ∧ guardSettled s.env s.plant) ∧
    Env.reset.level.published = false ∧
    ¬ (coldEvening (most + 1) .quiet).env.level.filtered + s.env.cfg.set.circHeadroom ≤ s.env.cfg.set.lHigh ∧
    (q.plant.setCore { q.plant.guard.core with state := .watch }).guard.core.state ≠ .normal ∧
    (q.plant.setPumps { q.plant.pumps with duty := [] }).pumps.duty = [] ∧ Env.reset.sys.mode = .setup ∧
    ((after .circRetryTimerExpiry (coldEvening (most + 1) .refused)).plant.frost.circ.refusal = some .headroom ∧
      (after .circRetryTimerExpiry { s with plant := s.plant.setPumps { s.plant.pumps with duty := [] } }).plant.frost.circ.refusal =
        some .noPump) ∧
    (q.plant.frost.zones.z2.boost = false ∧ ¬ s.env.cfg.set.zone.z2.offAbove ≤ 9) := by
  unfold guardSettled; decide +kernel

/-- A record in each state with the hand-over that moves it and the one that does not; the raise counter one below its top and at it;
a table in which HIGH_HIGH, raised after LEVEL_SENSOR of the same priority, is not the top record; a relay that the threshold holds. -/
theorem witness_AlarmTransitions :
    (∀ st ∈ [AlarmState.quiet, .active, .acked, .latched],
      ((alarmed .high st).plant.alarms.get .high).state = st ∧ (alarmed .high st).plant.alarms.table.length = 24 ∧
      (alarmed .high st).plant.alarms.raiseCounter < 4294967295) ∧
    ({ Alarms.reset with raiseCounter := 4294967294 } : Alarms).raiseCounter < 4294967295 ∧
    4294967295 ≤ ({ Alarms.reset with raiseCounter := 4294967295 } : Alarms).raiseCounter ∧ AlarmKind.store ≠ .high ∧
    (let P := { Plant.reset with alarms := ⟨List.replicate 24 .reset, 3, 0⟩ }
     let P := P.setAlarms (P.alarms.put .levelSensor ⟨.latched, some 2, some none, 1⟩)
     let a := (handle (.cond .highHigh true) Env.reset P).1.alarms
     (a.get .highHigh).state = .active ∧ (a.get .levelSensor).state = .latched ∧ AlarmKind.levelSensor.priority = 2 ∧
     (a.get .levelSensor).raiseSeq = some 2 ∧ (a.get .highHigh).raiseSeq = some 3 ∧
     (∀ k ∈ allAlarms, (a.get k).raiseSeq.getD 0 < 4294967296) ∧ AlarmKind.highHigh.priority ≤ Env.reset.cfg.set.relayThreshold ∧
     (handle (.cond .highHigh true) Env.reset P).1.telem.queue.getLast?.map (·.body) =
       some (u32 1 ++ [2, 1, 0, 1, 0] ++ [3, 3, 2] ++ u32 1 ++ u32 1 ++ u32 0 ++ [1])) := by decide +kernel

/-- The first and the last id, the numbers next to them, a record in each state. -/
theorem witness_AckAlarm : (7 : Byte) ≠ 0 ∧ 255 < 256 ∧ AlarmKind.overflowTrip.place + 1 = 1 ∧ AlarmKind.high.place + 1 = 24 ∧
    24 < 25 ∧ ∀ st ∈ [AlarmState.quiet, .active, .acked, .latched],
      ((alarmed .high st).plant.alarms.get .high).state = st ∧ (alarmed .high st).plant.alarms.table.length = 24 ∧
      (alarmed .high st).clearToAnswer = true := by decide +kernel

/-- Ten and eleven points in the open batch, and none; a queue with one general place left and with none; a level as far from the
reference as the deadband, one millimetre nearer, no reference, no deadband, and a level that is HELD. -/
theorem witness_TrendTimers :
    let at_ := fun n => telem fun t => { t with batch := List.replicate n point }
    let s := fun (l : Nat) (q : Quality) => { levelled l q with plant := (telem fun t => { t with reference := some 9000 }).plant }
    let c := Settings.factory
    let waits := fun n => (List.replicate n (⟨.level, 0, []⟩ : Notice))
    (at_ 10).plant.telem.batch.length < 11 ∧ (at_ 11).plant.telem.batch.length = 11 ∧ State.reset.plant.telem.batch = [] ∧
    (at_ 1).plant.telem.batch.getLast? = some point ∧
    ¬ 19 ≤ generalCount (waits 18) ∧ 19 ≤ generalCount (waits 19) ∧
    (c.deadband ≠ 0 ∧ (s 9100 .good).plant.telem.reference = some 9000 ∧ (s 9100 .good).env.level.quality = .good ∧
      c.deadband ≤ max 9100 9000 - min 9100 9000 ∧ c.deadband ≤ max 8900 9000 - min 8900 9000 ∧
      max 9099 9000 - min 9099 9000 < c.deadband) ∧
    (s 9100 .held).env.level.quality ≠ .good ∧ (levelled 9100 .good).plant.telem.reference = none ∧
    (handle .telemPublication (s 9100 .good).env (s 9100 .good).plant).1.telem.reference = some 9100 ∧
    (handle .telemPublication (s 9099 .good).env (s 9099 .good).plant).1 = (s 9099 .good).plant := by decide +kernel

/-- A coalesced kind that waits and one that does not, a DONE, and a general notice that finds 18 and 19 general places taken. -/
theorem witness_QueuesKept_notices :
    let l : Notice := ⟨.level, 0, [1]⟩
    let m : Notice := ⟨.plan, 0, [2]⟩
    let n : Notice := ⟨.plan, 0, [3]⟩
    let d : Notice := ⟨.done, 7, [4]⟩
    let t := fun q => { Telem.reset with queue := q }
    (n.kind ≠ .level ∧ n.kind ≠ .done ∧ m.kind = n.kind ∧ ∀ x ∈ [l] ++ [d], x.kind ≠ n.kind) ∧
    (t ([l] ++ m :: [d])).queue = [l] ++ m :: [d] ∧
    (d.kind = .done ∧ ∀ x ∈ List.replicate 19 l, x.kind ≠ n.kind) ∧ ¬ 19 ≤ generalCount (List.replicate 18 l) ∧
    (n.kind ≠ .alarm ∧ 19 ≤ generalCount (d :: List.replicate 19 l)) ∧
    ((t (d :: List.replicate 19 l)).queueNotice n).queue = d :: List.replicate 18 l ++ [n] ∧
    ((t (d :: List.replicate 19 l)).queueNotice n).gap = true := by decide +kernel

theorem witness_ClearTrend : (7 : Byte) ≠ 0 ∧ State.reset.clearToAnswer = true ∧
    doneLoad State.reset.env.sys State.reset.plant < 4 ∧ State.reset.plant.telem.clear = none ∧
    (let s := telem fun t => { t with clear := some 9 }
     s.plant.telem.clear = some 9 ∧ s.clearToAnswer = true ∧ doneLoad s.env.sys s.plant < 4) := by decide +kernel

/-- The last codes of each range and the ones after, a start after itself, a commit in flight, the numbers next to 1..4. -/
theorem witness_CounterRequests : (7 : Byte) ≠ 0 ∧ State.reset.clearToAnswer = true ∧ 4294967295 < 4294967296 ∧ 4 ≤ 4 ∧
    (1 : Byte).toNat ≤ 1 ∧ 8 < (9 : Byte).toNat ∧ 2 < (3 : Byte).toNat ∧ CounterId.c4.number = 4 ∧
    State.reset.env.sys.commit = none ∧
    (with_ (fun e => { e with sys := { e.sys with commit := some ⟨9, e.cfg⟩ } }) id).env.sys.commit.isSome = true ∧
    (5 < 256 ∧ 4 < 5) ∧ (List.replicate 9 (0 : Byte)).length = 9 := by decide +kernel

/-- A counter that does not count, one that counts, and one that reaches its threshold exactly and starts another. -/
theorem witness_CounterEvents :
    let e := { Env.reset with cfg := { Env.reset.cfg with programs :=
      ⟨⟨.pumpStarts, .cheap, 0, false, none⟩, ⟨.pumpStarts, .dear, 0, false, none⟩, ⟨.pumpStarts, .any, 5, true, none⟩,
       ⟨.pumpStarts, .any, 0, false, some .c3⟩⟩ } }
    let t := { Telem.reset with counters := ⟨.reset, .reset, ⟨4, false, true, false⟩, ⟨0, false, false, false⟩⟩ }
    e.clock.tariff ≠ .cheap ∧ e.clock.tariff = .dear ∧ t.counters.c2.started = true ∧ t.counters.c2.frozen = false ∧
    (e.cfg.programs.c3.threshold ≠ 0 ∧ t.counters.c3.count < e.cfg.programs.c3.threshold ∧
      e.cfg.programs.c3.threshold ≤ min 4294967295 (t.counters.c3.count + 1) ∧ t.counters.c3.crossed = false) ∧
    e.cfg.programs.c4.startAfter = some .c3 := by decide +kernel

/-- The setpoints are in order at reset, on the night of the plan, and in each mode. -/
theorem witness_ordered : SetpointsOrdered State.reset ∧ SetpointsOrdered night ∧ ∀ m, SetpointsOrdered (inMode m) :=
  ⟨ordered_of _ (by unfold Ordered; decide) rfl rfl, ordered_of _ (by unfold Ordered; decide) rfl rfl,
    fun m => ordered_of _ (by cases m <;> unfold Ordered <;> decide) rfl rfl⟩

/-- Each taken change of R183, a failing RUN-entry check, a change that is not taken, a mode code above 2. -/
theorem witness_SetMode : (7 : Byte) ≠ 0 ∧ State.reset.clearToAnswer = true ∧ State.reset.env.sys.mode = .setup ∧
    (let s := { night with env := { night.env with sys := { night.env.sys with mode := .setup }
                                                   cfg := { night.env.cfg with geometry := some [⟨0, 0⟩, ⟨14600, 1⟩] } } }
     s.env.sys.mode = .setup ∧ s.clearToAnswer = true ∧
     s.env.cfg.geometry = some [⟨0, 0⟩, ⟨14600, 1⟩] ∧ [(⟨0, 0⟩ : Breakpoint), ⟨14600, 1⟩].getLast? = some ⟨14600, 1⟩ ∧
     s.env.cfg.set.lOver ≤ 14600) ∧
    (inMode .run).env.sys.mode = .run ∧ (inMode .commission).env.sys.mode = .commission ∧
    (∀ z ∈ allZones, State.reset.plant.load.zones.get z = .idle) ∧ State.reset.env.cfg.geometry = none ∧
    Mode.commission ≠ (inMode .run).env.sys.mode ∧ 2 < (3 : Byte).toNat := by decide +kernel

/-- In COMMISSION with the guard's record of NORMAL saved and a move of the dump under way. -/
def commissioned : State :=
  with_ (fun e => { e with sys := { e.sys with mode := .commission }, level := { e.level with published := true, quality := .good } })
    fun P => { P with
      guard := { P.guard with saved := some { P.guard.core with state := .normal, reason := .none, inletHold := none, dumpHold := none } }
      valves := { P.valves with dump := { P.valves.dump with
        state := .moving, position := some 5, target := some 9, saved := some (.idle, some 5), phase := none } } }

/-- In SETUP with no zone's claim standing: a valve that moves and knows its place, one in its seat search, one that homes from a
FAULT, one with an operation in flight; in COMMISSION: a stem that opens and one that closes; a saved record that the exit restores whole. -/
theorem witness_SetMode_commission :
    let d := fun f => dump f
    let moving := d fun r => { r with state := .moving, position := some 5, target := some 9, op := some ⟨7, 0x28⟩ }
    let seating := d fun r => { r with state := .moving, position := some 0, target := some 0, seat := some 3 }
    let homing := d fun r => { r with state := .homing, fromFault := true, phase := some (.seek 3) }
    let closing := inMode .commission
    (7 : Byte) ≠ 0 ∧ State.reset.clearToAnswer = true ∧ State.reset.env.sys.mode = .setup ∧
    (∀ z ∈ allZones, State.reset.plant.load.zones.get z = .idle) ∧
    (moving.plant.valves.dump.op = some ⟨7, 0x28⟩ ∧ moving.plant.valves.dump.state = .moving ∧
      moving.plant.valves.dump.position = some 5 ∧ moving.plant.valves.dump.seat = none) ∧
    seating.plant.valves.dump.seat ≠ none ∧ homing.plant.valves.dump.state = .homing ∧
    State.reset.plant.valves.dump.state ≠ .moving ∧ State.reset.plant.valves.dump.state ≠ .homing ∧
    (closing.env.sys.mode = .commission ∧ closing.plant.valves.inlet.state = .homing ∧ closing.plant.valves.inlet.seat = none) ∧
    (commissioned.env.sys.mode = .commission ∧ commissioned.plant.valves.dump.state = .moving ∧
      commissioned.plant.valves.dump.position = some 5 ∧ commissioned.plant.valves.dump.target = some 9 ∧
      commissioned.plant.valves.dump.unread = false ∧ commissioned.clearToAnswer = true) ∧
    (∃ k, commissioned.plant.guard.saved = some k ∧ k.fast = false ∧ chooseGuard commissioned.env k = (k.state, k.reason) ∧
      k.dumpHold = none) ∧ commissioned.env.level.rate = none ∧ commissioned.plant.valves.dump.saved = some (.idle, some 5) ∧
    (∀ p ∈ allPumps, p ∉ commissioned.plant.pumps.duty → (commissioned.plant.pumps.recs.get p).served = .empty) ∧
    (after (.setMode 7 [0, 0]) commissioned).plant.cut = false := by
  refine ⟨by decide, by decide, by decide, by decide, by decide +kernel, by decide +kernel, by decide +kernel, by decide +kernel,
    by decide +kernel, by decide +kernel, by decide +kernel, ⟨_, rfl, by decide +kernel, by decide +kernel, by decide +kernel⟩,
    by decide +kernel, by decide +kernel, by decide +kernel, by decide +kernel⟩

/-- The OVER float DRY with nothing saved and the latch clear; a geometry that passes and none (the setpoints are in order:
witness_ordered). -/
theorem witness_Restarts : State.reset.env.pins.overFloat = .dry ∧ State.reset.plant.guard.saved = none ∧
    State.reset.plant.guard.core.latch = false ∧ State.reset.env.cfg.geometry = none ∧
    (after (.resetLine) { night with env := { night.env with cfg := { night.env.cfg with geometry := some bowl } } }).env.sys.mode =
      .run := by decide +kernel
/-- The hand-overs of each restart are carried out to their end; a pump locked out, a dump that moves at a known place and one whose
homing from a FAULT is cut short; a cold zone. -/
theorem witness_Restarts_rebuilt :
    let d := fun f => dump f
    let moving := d fun r => { r with state := .moving, position := some 5, target := some 9 }
    let homing := d fun r => { r with state := .homing, fromFault := true, phase := some (.seek 3) }
    let locked := pumped .p1 fun r => { r with state := .lockout }
    let cold := { State.reset with env := { State.reset.env with pins := { State.reset.env.pins with bus := ⟨some 19, none, none, none, none⟩ } } }
    (after .powerOn cold).plant.cut = false ∧ (after .supplyDipRestart cold).plant.cut = false ∧
    (after .resetLine moving).plant.cut = false ∧ (after .resetLine homing).plant.valves.dump.state = .fault ∧
    (moving.plant.valves.dump.saved = none ∧ moving.plant.valves.dump.position = some 5 ∧ moving.plant.valves.dump.seat = none) ∧
    (locked.plant.pumps.recs.get .p1).state = .lockout ∧ (after .resetLine locked).plant.pumps.duty = [.p2, .p3] ∧
    ((after .powerOn cold).plant.frost.zones.z1.state = .heat ∧ (19 : Int) < (State.reset.env.cfg.set.zone.get .z1).onBelow) := by
  decide +kernel

theorem witness_CommitSettings : (7 : Byte) ≠ 0 ∧ State.reset.clearToAnswer = true ∧
    doneLoad State.reset.env.sys State.reset.plant < 4 ∧ State.reset.env.sys.commit = none ∧
    (let s := with_ (fun e => { e with sys := { e.sys with commit := some ⟨9, e.cfg⟩ } }) id
     s.env.sys.commit = some ⟨9, s.env.cfg⟩ ∧ s.clearToAnswer = true ∧ doneLoad s.env.sys s.plant < 4 ∧
     s.plant.alarms.table.length = 24) := by decide +kernel

/-- The ends of what four bytes carry; a setpoint that keeps the order and one that does not; BUSY and STATE. -/
theorem witness_WriteSetting :
    let c := State.reset.env.cfg.set
    (7 : Byte) ≠ 0 ∧ State.reset.clearToAnswer = true ∧ (-2147483648 : Int) ≤ 2147483647 ∧ (2147483647 : Int) < 2147483648 ∧
    (rangeOf c .lHigh).1 ≤ (rangeOf c .lHigh).2 ∧ State.reset.env.sys.commit = none ∧ State.reset.env.sys.mode = .setup ∧
    Ordered (putSetting c .lHigh 14199) ∧ ¬ Ordered (putSetting c .lHigh 14200) ∧
    (with_ (fun e => { e with sys := { e.sys with commit := some ⟨9, e.cfg⟩ } }) id).env.sys.commit.isSome = true ∧
    SettingId.lHigh.structural = true ∧ (inMode .run).env.sys.mode ≠ .setup := by unfold Ordered; decide +kernel

/-- A write in SETUP of each setting with an effect of its own: a tank top below the published level and one that is not, L_high under
a boost, a rating at the cap and one above it, pumps unfitted and fitted, a zone taken out and brought back warm, cold and with a
faulted sensor, a trend interval and a report period at their timers and above them. -/
theorem witness_WriteSetting_effects :
    let w := fun (i : SettingId) (v : Int) => after (.writeSetting 7 (u16 i.number ++ s32 v ++ [0]))
    let set := fun (f : Settings → Settings) (p : Plant → Plant) =>
      with_ (fun e => { e with cfg := { e.cfg with set := f e.cfg.set } }) p
    let heated := set id fun P => { P with
      load := { P.load with cap := 500, zones := { P.load.zones with z2 := .granted .warm 3 4 } }
      frost := { P.frost with zones := { P.frost.zones with z2 := { P.frost.zones.z2 with state := .heat, timer := 9 } } } }
    let out := fun (x : Sensor) => set (fun c => { c with zone := { c.zone with z2 := { c.zone.z2 with enabled := false } } })
      fun P => { P with frost := { P.frost with
        zones := { P.frost.zones with z2 := { P.frost.zones.z2 with state := .disabled } }
        sensors := { P.frost.sensors with z2 := x } } }
    let timed := telem fun t => { t with interval := 30, report := 300, batch := [point] }
    (Ordered (putSetting Settings.factory .lTop 14900) ∧ (w .lTop 14900 (levelled 14950 .good)).env.level.held = 14900 ∧
      (w .lTop 14950 (levelled 14950 .good)).env.level.held = 14950) ∧
    (w .lHigh 13000 (set id fun P => { P with fill := { P.fill with boost := some ⟨13700, 2⟩ } })).plant.fill.boost =
      some ⟨12900, 2⟩ ∧
    ((∀ o ∈ allLoads, o ≠ .zone .z2 → heated.plant.load.claim o = .idle) ∧ heated.plant.load.zones.z2 = .granted .warm 3 4 ∧
      (w (.zoneRating .z2) 501 heated).plant.frost.zones.z2.state = .want ∧
      (w (.zoneRating .z2) 500 heated).plant.load.zones.z2 = .granted .warm 3 4) ∧
    ((w .pumpsFitted 1 State.reset).plant.pumps.duty = [.p1] ∧ State.reset.plant.pumps.rotationPending = false ∧
      (w .pumpsFitted 3 (w .pumpsFitted 1 State.reset |> clearedReply)).plant.pumps.duty = [.p1, .p2, .p3]) ∧
    ((w (.enabled .z2) 0 heated).plant.frost.zones.z2.state = .disabled ∧
      (w (.enabled .z2) 1 (out ⟨some 100, false, 0, 0⟩)).plant.frost.zones.z2.state = .off ∧
      (w (.enabled .z2) 1 (out ⟨some 19, false, 0, 0⟩)).plant.frost.zones.z2.state ≠ .off ∧
      (w (.enabled .z2) 1 (out ⟨none, true, 3, 0⟩)).plant.frost.zones.z2.state = .fallback) ∧
    ((w .trendInterval 30 timed).plant.telem.interval = 0 ∧ (w .trendInterval 31 timed).plant = timed.plant ∧
      (w .reportPeriod 300 timed).plant.telem.batch = [] ∧ (w .reportPeriod 301 timed).plant = timed.plant) := by
  unfold Ordered; decide +kernel

/-- The ends of what two bytes carry, in COMMISSION and outside it, and a body of the wrong length. -/
theorem witness_SimulateInputs : (7 : Byte) ≠ 0 ∧ (inMode .commission).clearToAnswer = true ∧ 65535 < 65536 ∧
    (∀ x ∈ [some (-32767), some 32767, none], wfAnswer x = true) ∧ (inMode .commission).env.sys.mode = .commission ∧
    State.reset.env.sys.mode ≠ .commission ∧ ([0] : List Byte).length ≠ 18 := by decide +kernel

end Sys2Proof.Tests
end

section
namespace Sys2Proof.Machine

/-! ### The level unit within the tank (R3, R4, R5, R9) -/

/-- The window holds at most five values, and the window, the filtered and the held level lie at or below `top`. -/
def Level.Within (lv : Level) (top : Nat) : Prop :=
  lv.window.length ≤ 5 ∧ (∀ v ∈ lv.window, v ≤ top) ∧ lv.filtered ≤ top ∧ lv.held ≤ top

theorem levelInTank_iff (s : State) : LevelInTank s ↔ s.env.level.Within s.env.cfg.set.lTop := Iff.rfl

theorem Level.Within.shown_le {lv : Level} {top : Nat} (h : lv.Within top) : lv.shown ≤ top := by
  obtain ⟨-, -, hf, hh⟩ := h
  unfold Level.shown
  split
  · exact hf
  · exact hh

/-- A converted level lies within the tank (R2 d). -/
theorem convert_le (c : Settings) (raw : Nat) : convert c raw ≤ c.lTop := by
  unfold convert clampInt
  split
  · simp
  · split <;> omega

theorem mem_of_median {w : List Nat} {m : Nat} (h : median w = some m) : m ∈ w := by
  unfold median at h
  split at h
  · exact (mem_sortBy id m w).mp (List.mem_of_getElem? h)
  · cases h

theorem length_joinWindow_le (w : List Nat) (v : Nat) : (joinWindow w v).length ≤ 5 := by
  unfold joinWindow
  split
  · rename_i hw
    simp only [Config.windowSize] at hw
    simp
    omega
  · rename_i hw
    simp only [Config.windowSize] at hw ⊢
    simp
    omega

theorem mem_joinWindow {w : List Nat} {v x : Nat} (h : x ∈ joinWindow w v) : x ∈ w ∨ x = v := by
  unfold joinWindow at h
  split at h
  · simpa using h
  · rcases List.mem_append.mp h with hx | hx
    · exact .inl (List.mem_of_mem_drop hx)
    · exact .inr (by simpa using hx)

/-- A value joins the window (R4). -/
theorem Level.Within.join {lv : Level} {top v : Nat} (h : lv.Within top) (hv : v ≤ top) (f g : Nat) :
    { lv with window := joinWindow lv.window v, faultRun := f, goodRun := g }.Within top := by
  obtain ⟨-, hw, hf, hh⟩ := h
  refine ⟨length_joinWindow_le _ _, fun x hx => ?_, hf, hh⟩
  rcases mem_joinWindow hx with hx | rfl
  · exact hw x hx
  · exact hv

theorem Level.Within.seed {lv : Level} {top : Nat} (h : lv.Within top) : lv.seed.Within top := by
  obtain ⟨hl, hw, hf, hh⟩ := h
  unfold Level.seed
  split
  · rename_i m hm
    exact ⟨hl, hw, hw m (mem_of_median hm), hh⟩
  · exact ⟨hl, hw, hf, hh⟩

/-- The filter averages two levels of the tank (R5 b). -/
theorem Level.Within.average {lv : Level} {top : Nat} (h : lv.Within top) : lv.average.Within top := by
  obtain ⟨hl, hw, hf, hh⟩ := h
  unfold Level.average
  split
  · rename_i m hm
    have hm' : m ≤ top := hw m (mem_of_median hm)
    exact ⟨hl, hw, show (7 * lv.filtered + m + 4) / 8 ≤ top by omega, hh⟩
  · exact ⟨hl, hw, hf, hh⟩

theorem Level.Within.goodSample {lv : Level} {top v : Nat} (h : lv.Within top) (hv : v ≤ top) :
    (lv.goodSample v).Within top := by
  have hj := h.join hv 0 (min Config.goodLimit (lv.goodRun + 1))
  unfold Level.goodSample
  dsimp only
  split
  · exact hj.average
  · split
    · split
      · exact hj.seed
      · exact hj
    · split
      · exact hj.seed
      · exact hj

theorem Level.Within.faulted {lv : Level} {top : Nat} (h : lv.Within top) : lv.faulted.Within top := by
  unfold Level.faulted
  dsimp only
  split <;> exact h

theorem Level.Within.publish {lv : Level} {top : Nat} (h : lv.Within top) (c : Settings) :
    (lv.publish c).Within top := by
  have hs := h.shown_le
  obtain ⟨hl, hw, hf, -⟩ := h
  exact ⟨hl, hw, hf, hs⟩

/-- The level unit after a sample, its publication not made yet. -/
def Level.moved (c : Settings) (lv : Level) (raw : Nat) : Level :=
  let m := if goodRaw raw then lv.goodSample (convert c raw) else lv.faulted
  { m with lastRaw := raw, goodSince := m.goodSince && m.quality == Quality.good }

theorem Level.sample_eq (c : Settings) (lv : Level) (raw : Nat) :
    lv.sample c raw = if lv.publishes (lv.moved c raw) then (lv.moved c raw).publish c else lv.moved c raw := rfl

theorem Level.Within.moved {lv : Level} {c : Settings} (h : lv.Within c.lTop) (raw : Nat) :
    (lv.moved c raw).Within c.lTop := by
  have hm : (if goodRaw raw then lv.goodSample (convert c raw) else lv.faulted).Within c.lTop := by
    split
    · exact h.goodSample (convert_le c raw)
    · exact h.faulted
  exact hm

theorem Level.Within.sample {lv : Level} {c : Settings} (h : lv.Within c.lTop) (raw : Nat) :
    (lv.sample c raw).Within c.lTop := by
  rw [Level.sample_eq]
  split
  · exact (h.moved raw).publish c
  · exact h.moved raw

/-- A lowered tank top is carried to every level (R3). -/
theorem Level.within_lowerTop {lv : Level} (h : lv.window.length ≤ 5) (top : Nat) : (lv.lowerTop top).Within top := by
  refine ⟨by simpa [Level.lowerTop] using h, fun v hv => ?_, Nat.min_le_left _ _, Nat.min_le_left _ _⟩
  obtain ⟨w, -, rfl⟩ := List.mem_map.mp hv
  exact Nat.min_le_left _ _

/-- A full restart begins at level 0; a warm one keeps the settings, and takes the level last published (R20). -/
theorem within_restartLevel {e : Env} (h : e.level.Within e.cfg.set.lTop) (c : Cause) :
    (restartLevel c e).Within (cfgAfter c e).set.lTop := by
  have hl : (if c.full then 0 else e.level.shown) ≤ (cfgAfter c e).set.lTop := by
    unfold cfgAfter
    split
    · exact Nat.zero_le _
    · exact h.shown_le
  exact ⟨Nat.zero_le _, fun _ hv => absurd hv List.not_mem_nil, hl, hl⟩

end Sys2Proof.Machine
end

section
namespace Sys2Proof.Machine

/-! ### Answers that leave settings, level, clock, modes and pins as they were -/

/-- An answer changes nothing of the environment. -/
def EnvKept (answer : State → State × Answer) : Prop := ∀ s, (answer s).1.env = s.env

theorem envKept_readRequest (body : List Byte) (content : State → List Byte) : EnvKept (readRequest body content) := by
  intro s
  unfold readRequest
  split <;> rfl

theorem envKept_restart (body : List Byte) : EnvKept (answerRestart body) := by
  intro s
  unfold answerRestart
  split <;> rfl

theorem envKept_pause (on : Bool) (body : List Byte) : EnvKept (answerPause on body) := by
  intro s
  unfold answerPause
  split <;> rfl

theorem envKept_readSetting (body : List Byte) : EnvKept (answerReadSetting body) := by
  intro s
  unfold answerReadSetting
  split
  · rfl
  · split <;> rfl

theorem envKept_boost (body : List Byte) : EnvKept (answerBoost body) := by
  intro s
  unfold answerBoost
  split
  · rfl
  · split
    · rfl
    · dsimp only
      split <;> rfl

theorem envKept_cancelBoost (body : List Byte) : EnvKept (answerCancelBoost body) := by
  intro s
  unfold answerCancelBoost
  split <;> rfl

theorem envKept_lockPump (body : List Byte) : EnvKept (answerLockPump body) := by
  intro s
  unfold answerLockPump
  split
  · rfl
  · split
    · rfl
    · split
      · rfl
      · dsimp only
        split <;> rfl

theorem envKept_unlockPump (body : List Byte) : EnvKept (answerUnlockPump body) := by
  intro s
  unfold answerUnlockPump
  split
  · rfl
  · split
    · rfl
    · split <;> rfl

theorem envKept_moveValve (tag : Byte) (body : List Byte) : EnvKept (answerMoveValve tag body) := by
  intro s
  unfold answerMoveValve
  split
  · split <;> rfl
  · rfl

theorem envKept_homeValve (tag : Byte) (body : List Byte) : EnvKept (answerHomeValve tag body) := by
  intro s
  unfold answerHomeValve
  split
  · split <;> rfl
  · rfl

theorem envKept_stopValve (body : List Byte) : EnvKept (answerStopValve body) := by
  intro s
  unfold answerStopValve
  split
  · dsimp only
    split <;> rfl
  · rfl

theorem envKept_clearTrip (body : List Byte) : EnvKept (answerClearTrip body) := by
  intro s
  unfold answerClearTrip
  split
  · rfl
  · split <;> rfl

theorem envKept_ackAlarm (body : List Byte) : EnvKept (answerAckAlarm body) := by
  intro s
  unfold answerAckAlarm
  split
  · dsimp only
    split <;> rfl
  · rfl

theorem envKept_readAlarms (body : List Byte) : EnvKept (answerReadAlarms body) := by
  intro s
  unfold answerReadAlarms
  dsimp only
  split <;> rfl

theorem envKept_readTrend (body : List Byte) : EnvKept (answerReadTrend body) := by
  intro s
  unfold answerReadTrend
  dsimp only
  split <;> rfl

theorem envKept_clearTrend (tag : Byte) (body : List Byte) : EnvKept (answerClearTrend tag body) := by
  intro s
  unfold answerClearTrend
  split
  · rfl
  · split <;> rfl

theorem envKept_resetCounter (body : List Byte) : EnvKept (answerResetCounter body) := by
  intro s
  unfold answerResetCounter
  split <;> rfl

/-! ### Writes of settings -/

theorem refit_env (s : State) (old : Settings) (p : Pump) : (s.refit old p).env = s.env := by
  unfold State.refit
  split <;> rfl

theorem endRests_env (ps : List Pump) (s : State) : (State.endRests ps s).env = s.env := by
  induction ps generalizing s with
  | nil => rfl
  | cons p ps ih => exact ih _

theorem zoneEnableSigs_env (s : State) (old : Settings) (z : Zone) : (zoneEnableSigs s old z).env = s.env := by
  unfold zoneEnableSigs
  dsimp only
  split
  · rfl
  · split <;> rfl

theorem runTimeWritten_env (s : State) : s.runTimeWritten.env = s.env := by
  unfold State.runTimeWritten
  split <;> rfl

theorem intervalWritten_env (s : State) : s.intervalWritten.env = s.env := by
  unfold State.intervalWritten
  split <;> rfl

theorem periodWritten_env (s : State) : s.periodWritten.env = s.env := by
  unfold State.periodWritten
  split <;> rfl

theorem evaluateTariff_env (s : State) :
    s.evaluateTariff.env = { s.env with clock := s.env.clock.evaluated s.env.cfg } := rfl

theorem sourceWritten_env (s : State) (old : Settings) :
    (s.sourceWritten old).env = { s.env with clock := (s.sourceWritten old).env.clock } := by
  unfold State.sourceWritten
  dsimp only
  split <;> rfl

/-- An accepted write of any setting but L_top and the tariff source leaves the environment with the new value as it is. -/
theorem written_env (s : State) (old : Settings) (i : SettingId) (ht : i ≠ .lTop) (hs : i ≠ .source) :
    (s.written old i).env = s.env := by
  cases i
  case lTop => exact absurd rfl ht
  case source => exact absurd rfl hs
  case pumpsFitted => simp only [State.written, State.settle_env, refit_env]
  case restTime => exact endRests_env _ s
  case enabled z => exact zoneEnableSigs_env s old z
  case circRunTime => exact runTimeWritten_env s
  case trendInterval => exact intervalWritten_env s
  case reportPeriod => exact periodWritten_env s
  all_goals rfl

/-- The level unit keeps its estimates at an accepted write of any setting but L_top. -/
theorem written_level (s : State) (old : Settings) (i : SettingId) (ht : i ≠ .lTop) :
    (s.written old i).env.level = s.env.level ∧ (s.written old i).env.cfg = s.env.cfg := by
  by_cases hs : i = .source
  · subst hs
    show (s.sourceWritten old).env.level = _ ∧ (s.sourceWritten old).env.cfg = _
    rw [sourceWritten_env]
    exact ⟨rfl, rfl⟩
  · rw [written_env s old i ht hs]
    exact ⟨rfl, rfl⟩

theorem putSetting_lTop (c : Settings) (i : SettingId) (v : Int) (h : i ≠ .lTop) : (putSetting c i v).lTop = c.lTop := by
  cases i
  case lTop => exact absurd rfl h
  all_goals rfl

theorem lTop_notMem_dependents (i : SettingId) : SettingId.lTop ∉ dependents i := by
  cases i <;> simp [dependents]

theorem reclamp_lTop (is : List SettingId) (c : Settings) (h : SettingId.lTop ∉ is) : (reclamp is c).1.lTop = c.lTop := by
  induction is generalizing c with
  | nil => rfl
  | cons i is ih =>
    rw [List.mem_cons, not_or] at h
    unfold reclamp
    dsimp only
    split
    · exact ih c h.2
    · exact (ih _ h.2).trans (putSetting_lTop c i _ (Ne.symm h.1))

end Sys2Proof.Machine
end

section
namespace Sys2Proof.Machine

/-! ### Every step keeps the levels within the tank -/

theorem LevelInTank.of_env {s t : State} (h : LevelInTank s) (he : t.env = s.env) : LevelInTank t := by
  rw [levelInTank_iff, he]
  exact h

theorem LevelInTank.of_level {s t : State} (h : LevelInTank s) (hl : t.env.level = s.env.level)
    (hc : t.env.cfg = s.env.cfg) : LevelInTank t := by
  rw [levelInTank_iff, hl, hc]
  exact h

/-- A publication of the estimate as it stands (R9 c, d). -/
theorem LevelInTank.republish {s : State} (h : LevelInTank s) : LevelInTank s.republish :=
  Level.Within.publish (lv := s.env.level) h s.env.cfg.set

/-- A write of L_top carries a lowering to the level unit, whatever stood there before (R3). -/
theorem levelInTank_topWritten {s : State} (h : s.env.level.window.length ≤ 5) : LevelInTank s.topWritten := by
  have hl : LevelInTank (s.setLevel (s.env.level.lowerTop s.env.cfg.set.lTop)) := Level.within_lowerTop h _
  unfold State.topWritten
  dsimp only
  split
  · exact hl.republish
  · exact hl

theorem LevelInTank.writeValue {s : State} (h : LevelInTank s) (i : SettingId) (v : Int) :
    LevelInTank (writeValue i v s).1 := by
  unfold Machine.writeValue
  dsimp only
  split
  · exact h
  · obtain ⟨hl, hw, hf, hh⟩ := h
    by_cases hi : i = .lTop
    · subst hi
      exact levelInTank_topWritten hl
    · have hc := reclamp_lTop (dependents i) (putSetting s.env.cfg.set i (takenValue s.env.cfg.set i v))
        (lTop_notMem_dependents i)
      rw [putSetting_lTop _ _ _ hi] at hc
      rw [levelInTank_iff, (written_level _ _ i hi).1, (written_level _ _ i hi).2]
      exact ⟨hl, hc ▸ hw, hc ▸ hf, hc ▸ hh⟩

theorem LevelInTank.answerWriteSetting {s : State} (h : LevelInTank s) (body : List Byte) :
    LevelInTank (answerWriteSetting body s).1 := by
  unfold Machine.answerWriteSetting
  split
  · exact h
  · split
    · exact h
    · split
      · exact h
      · split
        · exact h
        · exact h.writeValue _ _

theorem LevelInTank.answerWriteGeometry {s : State} (h : LevelInTank s) (body : List Byte) :
    LevelInTank (answerWriteGeometry body s).1 := by
  unfold Machine.answerWriteGeometry
  split
  · exact h
  · split
    · exact h
    · split
      · exact h
      · dsimp only
        split
        · dsimp only
          split
          · exact LevelInTank.republish (s := s.setCfg { s.env.cfg with geometry := _ }) h
          · exact h
        · exact h

theorem LevelInTank.answerWriteTariffWindows {s : State} (h : LevelInTank s) (body : List Byte) :
    LevelInTank (answerWriteTariffWindows body s).1 := by
  unfold Machine.answerWriteTariffWindows
  split
  · exact h
  · split
    · exact h
    · dsimp only
      split <;> exact h

theorem LevelInTank.answerCommitSettings {s : State} (h : LevelInTank s) (tag : Byte) (body : List Byte) :
    LevelInTank (answerCommitSettings tag body s).1 := by
  unfold Machine.answerCommitSettings
  split
  · exact h
  · split <;> exact h

theorem LevelInTank.answerSetClock {s : State} (h : LevelInTank s) (body : List Byte) :
    LevelInTank (answerSetClock body s).1 := by
  unfold Machine.answerSetClock
  split <;> exact h

theorem LevelInTank.answerSimulateInputs {s : State} (h : LevelInTank s) (body : List Byte) :
    LevelInTank (answerSimulateInputs body s).1 := by
  unfold Machine.answerSimulateInputs
  split
  · exact h
  · split <;> exact h

theorem LevelInTank.answerSetCounter {s : State} (h : LevelInTank s) (body : List Byte) :
    LevelInTank (answerSetCounter body s).1 := by
  unfold Machine.answerSetCounter
  split
  · split
    · exact h
    · split <;> exact h
  · exact h

/-- A change of mode moves floats, clock and modes of the environment, and no estimate of the level. -/
theorem LevelInTank.changeMode {s : State} (h : LevelInTank s) (m : Mode) : LevelInTank (changeMode m s) := by
  unfold Machine.changeMode
  split <;> exact h

theorem LevelInTank.answerSetMode {s : State} (h : LevelInTank s) (body : List Byte) :
    LevelInTank (answerSetMode body s).1 := by
  unfold Machine.answerSetMode
  split
  · unfold askMode
    split
    · split
      · exact h.changeMode _
      · exact h
    · split
      · exact h
      · exact h.changeMode _
    all_goals first | exact h.changeMode _ | exact h
  · exact h

/-- Whatever request a block answers, the levels stay within the tank. -/
theorem LevelInTank.answer {s : State} (h : LevelInTank s) {kind tag : Byte} {body : List Byte}
    {answer : State → State × Answer} (ha : answerByKind kind tag body = some answer) : LevelInTank (answer s).1 := by
  unfold answerByKind at ha
  split at ha <;> cases ha
  case h_3 => exact h.answerSetMode body
  case h_4 => exact h.of_env (envKept_restart body s)
  case h_5 => exact h.of_env (envKept_pause true body s)
  case h_6 => exact h.of_env (envKept_pause false body s)
  case h_7 => exact h.answerWriteSetting body
  case h_8 => exact h.of_env (envKept_readSetting body s)
  case h_9 => exact h.answerWriteGeometry body
  case h_11 => exact h.answerWriteTariffWindows body
  case h_13 => exact h.answerCommitSettings tag body
  case h_14 => exact h.answerSetClock body
  case h_17 => exact h.answerSimulateInputs body
  case h_19 => exact h.of_env (envKept_boost body s)
  case h_20 => exact h.of_env (envKept_cancelBoost body s)
  case h_22 => exact h.of_env (envKept_lockPump body s)
  case h_23 => exact h.of_env (envKept_unlockPump body s)
  case h_24 => exact h.of_env (envKept_moveValve tag body s)
  case h_25 => exact h.of_env (envKept_homeValve tag body s)
  case h_26 => exact h.of_env (envKept_stopValve body s)
  case h_29 => exact h.of_env (envKept_clearTrip body s)
  case h_33 => exact h.of_env (envKept_ackAlarm body s)
  case h_34 => exact h.of_env (envKept_readAlarms body s)
  case h_35 => exact h.of_env (envKept_readTrend body s)
  case h_36 => exact h.of_env (envKept_clearTrend tag body s)
  case h_38 => exact h.answerSetCounter body
  case h_39 => exact h.of_env (envKept_resetCounter body s)
  all_goals exact h.of_env (envKept_readRequest body _ s)

theorem LevelInTank.carryOut {s : State} (h : LevelInTank s) {kind tag : Byte} {answer : State → State × Answer}
    (ha : LevelInTank (answer s).1) : LevelInTank (carryOut kind tag answer s) := by
  unfold Machine.carryOut
  split
  · exact h
  · split
    · exact h
    · exact ha

theorem LevelInTank.carryOutRequest {s : State} (h : LevelInTank s) (r : Request) : LevelInTank (carryOutRequest r s) := by
  unfold Machine.carryOutRequest
  split
  · rename_i answer ha
    exact h.carryOut (h.answer ha)
  · exact h

theorem enqueue_env (s : State) (r : Request) : (s.enqueue r).env = s.env := by
  rcases enqueue_cases s r with ⟨-, he⟩ | ⟨-, he⟩ <;> rw [he]

theorem LevelInTank.submit {s t : State} (h : LevelInTank s) {kind tag : Byte} {body : List Byte}
    {answer : State → State × Answer} (ha : answerByKind kind tag body = some answer)
    (ht : submit kind tag body answer s = .next t) : LevelInTank t := by
  unfold Machine.submit at ht
  cases ht
  split
  · exact h.carryOut (h.answer ha)
  · exact h.of_env (enqueue_env s _)

theorem LevelInTank.serveQueue {s : State} (h : LevelInTank s) : LevelInTank (serveQueue s) := by
  unfold Machine.serveQueue
  split
  · apply LevelInTank.carryOutRequest
    exact h
  · exact h

/-! ### The receiver and the transmitter -/

theorem endSilence_env (s : State) : s.endSilence.env = s.env := by
  unfold State.endSilence
  split <;> rfl

theorem LevelInTank.goodFrame {s : State} (h : LevelInTank s) (r : Request) : LevelInTank (s.goodFrame r) := by
  unfold State.goodFrame
  refine LevelInTank.serveQueue (h.of_env ?_)
  rw [enqueue_env, endSilence_env]
  rfl

theorem LevelInTank.receiveByte {s : State} (h : LevelInTank s) (b : Byte) : LevelInTank (receiveByte s b) := by
  unfold Machine.receiveByte
  split
  · split <;> exact h
  · dsimp only
    split
    · exact h
    · split
      · exact h
      · split
        · exact h.goodFrame _
        · exact h

theorem LevelInTank.receiveBytes {s : State} (h : LevelInTank s) (bytes : List Byte) :
    LevelInTank (bytes.foldl Machine.receiveByte s) := by
  induction bytes generalizing s with
  | nil => exact h
  | cons b bs ih => exact ih (h.receiveByte b)

theorem LevelInTank.restart {s : State} (h : LevelInTank s) (c : Cause) : LevelInTank (restart c s) :=
  within_restartLevel h c

theorem LevelInTank.transmitNextFrame {s t : State} (h : LevelInTank s) (ht : execTransmitNextFrame s = .next t) :
    LevelInTank t := by
  unfold execTransmitNextFrame at ht
  cases ht
  split
  · exact h
  · split
    · exact LevelInTank.serveQueue (s := State.send _ _ _) h
    · exact h
    · exact h

theorem LevelInTank.frameSent {s t : State} (h : LevelInTank s) (ht : execFrameSent s = .next t) : LevelInTank t := by
  unfold execFrameSent at ht
  cases ht
  split
  · exact h
  · dsimp only
    split
    · exact h
    · exact LevelInTank.restart (s := s.setLink _) h _
    · exact h

/-! ### Events of the level unit and of the sensor bus -/

theorem LevelInTank.takeSample {s : State} (h : LevelInTank s) (raw : BitVec 12) : LevelInTank (takeSample raw s) :=
  Level.Within.sample (lv := s.env.level) h (sampledRaw s.env raw)

theorem LevelInTank.floatContactChange {s t : State} (h : LevelInTank s) {f : FloatId} {w : Wet}
    (ht : execFloatContactChange f w s = .next t) : LevelInTank t := by
  unfold execFloatContactChange at ht
  cases ht
  split
  · exact h
  · cases f <;> exact h

theorem LevelInTank.floatDebounceExpiry {s t : State} (h : LevelInTank s) {f : FloatId}
    (ht : execFloatDebounceExpiry f s = .next t) : LevelInTank t := by
  unfold execFloatDebounceExpiry at ht
  cases ht
  split
  · cases f <;> exact h
  · exact h

theorem LevelInTank.sensorRead {s t : State} (h : LevelInTank s) {z1 z2 z3 z4 air : Option Int}
    (ht : execSensorRead z1 z2 z3 z4 air s = .next t) : LevelInTank t := by
  unfold execSensorRead at ht
  cases ht
  split
  · dsimp only
    split
    · apply LevelInTank.changeMode
      exact h.of_level rfl rfl
    · exact h.of_level rfl rfl
  · exact h.of_level rfl rfl

/-- Every command keeps the levels within the tank. -/
theorem LevelInTank.exec {s t : State} (h : LevelInTank s) {i : Instr} (ht : exec i s = .next t) : LevelInTank t := by
  cases hr : requestOf i with
  | some r =>
    obtain ⟨answer, he, ha⟩ := exec_request i r s hr
    exact h.submit ha (he ▸ ht)
  | none =>
    cases i <;> simp only [requestOf, reduceCtorEq] at hr
    case powerOn | supplyDipRestart | resetLine => cases ht; exact h.restart _
    case unknownKind kind tag body =>
      cases ht
      show LevelInTank (if _ then _ else _)
      split
      · exact h.carryOutRequest _
      · exact h.of_env (enqueue_env s _)
    case receiveFrame bytes => cases ht; exact h.receiveBytes bytes
    case transmitNextFrame => exact h.transmitNextFrame ht
    case frameSent => exact h.frameSent ht
    case transducerSample raw => cases ht; exact h.takeSample raw
    case floatContactChange f w => exact h.floatContactChange ht
    case floatDebounceExpiry f => exact h.floatDebounceExpiry ht
    case sensorRead z1 z2 z3 z4 air => exact h.sensorRead ht
    case commitDone | clearTrendDone | receiveGapTimeout | silenceStart | clockMinute | tariffContactChange |
        tariffDebounceExpiry | lineMinuteTick | runFeedbackChange | simulatedFeedbackChange | restEnd | stagnationMinute |
        inflowPulse | simulatedInflowPulse | lowWetTimerExpiry | reportTimerExpiry =>
      cases ht
      split <;> exact h
    all_goals
      cases ht
      exact h

theorem LevelInTank.step {s t : State} (h : LevelInTank s) (ht : step s = .next t) : LevelInTank t := by
  unfold Machine.step at ht
  split at ht
  · refine LevelInTank.exec ?_ ht
    exact h
  · cases ht
    exact h

/-- Settles O58: every operation on the level unit keeps its values within the tank, and every other command leaves them and the tank
top as they were. -/
theorem levelStaysInTank : Obligations.LevelStaysInTank := fun _ _ h ht => h.step ht

end Sys2Proof.Machine
end

section
namespace Sys2Proof.Machine

/-! ### What a hand-over leaves to the level unit's own

LEVEL_SENSOR and LEVEL_DISAGREE are handed by the level unit alone, before anything that follows from them; the reserve turns only where
it is judged, and the LOW wet timer moves at no hand-over. -/

/-- A hand-over of one of the level unit's two conditions (R8, R14). -/
def Sig.ofLevel : Sig → Bool
  | .cond .levelSensor _ => true
  | .cond .levelDisagree _ => true
  | _ => false

/-- No hand-over of a list is of the level unit's conditions. -/
def Calm (gs : List Sig) : Prop := ∀ g ∈ gs, g.ofLevel = false

@[simp] theorem calm_nil : Calm [] := by simp [Calm]
@[simp] theorem calm_cons (g : Sig) (gs : List Sig) : Calm (g :: gs) ↔ g.ofLevel = false ∧ Calm gs := by simp [Calm]
@[simp] theorem calm_append (gs hs : List Sig) : Calm (gs ++ hs) ↔ Calm gs ∧ Calm hs := by
  simp [Calm, or_imp, forall_and]
@[simp] theorem calm_ite (c : Prop) [Decidable c] (gs hs : List Sig) :
    Calm (if c then gs else hs) ↔ (c → Calm gs) ∧ (¬ c → Calm hs) := by
  split <;> simp_all
@[simp] theorem calm_map {α : Type} (f : α → Sig) (xs : List α) : Calm (xs.map f) ↔ ∀ x ∈ xs, (f x).ofLevel = false := by
  simp [Calm]

/-- The alarm table, the LOW wet timer and the reserve stand. -/
structure Undisturbed (P Q : Plant) : Prop where
  alarms : Q.alarms = P.alarms
  lowWet : Q.fill.lowWet = P.fill.lowWet
  reserve : Q.pumps.reserve = P.pumps.reserve

theorem Undisturbed.rfl {P : Plant} : Undisturbed P P := ⟨by rfl, by rfl, by rfl⟩

theorem Undisturbed.after {P Q R : Plant} (k : Undisturbed Q R) (h : Undisturbed P Q) : Undisturbed P R :=
  ⟨k.alarms.trans h.alarms, k.lowWet.trans h.lowWet, k.reserve.trans h.reserve⟩

/-- An action that disturbs nothing of these and hands on neither of the level unit's conditions. -/
def Aside (P : Plant) (x : Plant × List Sig) : Prop := Undisturbed P x.1 ∧ Calm x.2

theorem aside_stay (P : Plant) {gs : List Sig} (h : Calm gs) : Aside P (P, gs) := ⟨.rfl, h⟩

theorem Aside.after {P Q : Plant} {x : Plant × List Sig} (hx : Aside Q x) (h : Undisturbed P Q) : Aside P x :=
  ⟨hx.1.after h, hx.2⟩

/-! #### Load-share unit -/

theorem calm_freezeSigs (c : Settings) (a b : LoadTable) : Calm (freezeSigs c a b) := by
  unfold freezeSigs; simp [Sig.ofLevel]

theorem calm_capSigs (a b : LoadTable) : Calm (capSigs a b) := by
  unfold capSigs; simp [Sig.ofLevel]

theorem aside_claim (l : Load) (k : LoadClass) (e : Env) (P : Plant) : Aside P (handleClaim l k e P) := by
  unfold handleClaim
  split
  · exact aside_stay P calm_nil
  · exact ⟨⟨rfl, rfl, rfl⟩, (calm_cons _ _).mpr ⟨rfl, calm_freezeSigs _ _ _⟩⟩

theorem aside_classChange (l : Load) (k : LoadClass) (e : Env) (P : Plant) : Aside P (handleClassChange l k e P) := by
  unfold handleClassChange
  split
  · exact aside_stay P calm_nil
  · exact aside_claim l k e P

theorem aside_release (l : Load) (e : Env) (P : Plant) : Aside P (handleRelease l e P) := by
  unfold handleRelease
  split
  · exact aside_stay P calm_nil
  · exact ⟨⟨rfl, rfl, rfl⟩, (calm_cons _ _).mpr ⟨rfl, calm_freezeSigs _ _ _⟩⟩

/-! #### Pump unit -/

theorem undisturbed_openPump (e : Env) (p : Pump) (st : PumpState) (sv : Served) (P : Plant) :
    Undisturbed P (openPump e p st sv P) := by
  unfold openPump
  dsimp only
  split <;> split <;> exact ⟨rfl, rfl, rfl⟩

theorem calm_leaveSigs (r : PumpRec) : Calm (leaveSigs r) := by
  unfold leaveSigs; simp [Sig.ofLevel]

theorem aside_stopPump (e : Env) (p : Pump) (st : PumpState) (sv : Served) (P : Plant) : Aside P (stopPump e p st sv P) :=
  ⟨undisturbed_openPump e p st sv P, (calm_cons _ _).mpr ⟨rfl, calm_leaveSigs _⟩⟩

theorem aside_uncalls (e : Env) (P : Plant) : Aside P (handleUncalls e P) := by
  unfold handleUncalls
  split
  · exact aside_stay P calm_nil
  · rename_i p _
    dsimp only
    have hx (st : PumpState) := aside_stopPump e p st .empty P
    split
    · exact ⟨(hx _).1, by simpa [Sig.ofLevel] using (hx _).2⟩
    · exact ⟨(hx _).1, by simpa [Sig.ofLevel] using (hx _).2⟩
    · exact ⟨(hx _).1, by simpa [Sig.ofLevel] using (hx _).2⟩
    · exact ⟨⟨rfl, rfl, rfl⟩, by simp [Sig.ofLevel]⟩

theorem aside_rotationCheck (P : Plant) : Aside P (handleRotationCheck P) := by
  unfold handleRotationCheck
  split
  · split
    · exact aside_stay P calm_nil
    · exact ⟨⟨rfl, rfl, rfl⟩, by simp [Sig.ofLevel]⟩
  · exact aside_stay P calm_nil

theorem aside_servePlace (P : Plant) (n : Nat) (p : Pump) : Aside P (servePlace P n p) := by
  refine ⟨⟨rfl, rfl, rfl⟩, ?_⟩
  unfold servePlace
  dsimp only
  split <;> simp [Sig.ofLevel]

theorem aside_servePlaces (P : Plant) (n : Nat) (ps : List Pump) : Aside P (servePlaces P n ps) := by
  induction ps generalizing P n with
  | nil => exact aside_stay P calm_nil
  | cons p ps ih =>
    have hp := aside_servePlace P n p
    have hps := ih (servePlace P n p).1 (n + 1)
    exact ⟨hps.1.after hp.1, (calm_append _ _).mpr ⟨hp.2, hps.2⟩⟩

theorem aside_calls (e : Env) (P : Plant) : Aside P (handleCalls e P) := by
  unfold handleCalls
  split
  · exact aside_stay P calm_nil
  · exact ⟨⟨rfl, rfl, rfl⟩, by simp [Sig.ofLevel]⟩

theorem aside_inletRequest (P : Plant) : Aside P (handleInletRequest P) := by
  unfold handleInletRequest
  dsimp only
  split
  · exact aside_stay P calm_nil
  · refine ⟨⟨rfl, rfl, rfl⟩, ?_⟩
    dsimp only
    split <;> simp [Sig.ofLevel]

theorem aside_askAgain (P : Plant) : Aside P (handleAskAgain P) :=
  aside_stay P (by simp [Sig.ofLevel])

theorem aside_startCheck (e : Env) (P : Plant) : Aside P (handleStartCheck e P) := by
  unfold handleStartCheck
  split
  · split
    · exact aside_stay P calm_nil
    · exact ⟨⟨rfl, rfl, rfl⟩, by simp [Sig.ofLevel]⟩
  · exact aside_stay P calm_nil

theorem aside_inletMoved (e : Env) (P : Plant) : Aside P (handleInletMoved e P) := by
  unfold handleInletMoved
  split
  · exact aside_stay P calm_nil
  · split
    · exact aside_stay P calm_nil
    · rename_i p _
      have hx := aside_stopPump e p .resting (P.pumps.recs.get p).served P
      exact ⟨hx.1, by simpa [Sig.ofLevel] using hx.2⟩

theorem aside_revokedPump (e : Env) (p : Pump) (P : Plant) : Aside P (revokedPump e p P) := by
  unfold revokedPump
  dsimp only
  split
  · exact ⟨undisturbed_openPump e p _ _ P, calm_leaveSigs _⟩
  · exact aside_stay P calm_nil

theorem aside_rotationRequest (P : Plant) : Aside P (handleRotationRequest P) := by
  unfold handleRotationRequest
  split
  · exact aside_stay P calm_nil
  · dsimp only
    split
    · split <;> exact ⟨⟨rfl, rfl, rfl⟩, by simp [Sig.ofLevel]⟩
    · exact aside_stay P calm_nil

theorem aside_limit (l : Limit) (P : Plant) : Aside P (handleLimit l P) := by
  unfold handleLimit
  split
  · exact aside_stay P calm_nil
  · exact ⟨⟨rfl, rfl, rfl⟩, by simp [Sig.ofLevel]⟩

theorem aside_circDemand (on : Bool) (P : Plant) : Aside P (handleCircDemand on P) := by
  unfold handleCircDemand
  split
  · exact aside_stay P calm_nil
  · exact ⟨⟨rfl, rfl, rfl⟩, by simp [Sig.ofLevel]⟩

/-! #### Valve unit -/

theorem undisturbed_finishOp (r : DoneResult) (v : ValveId) (P : Plant) : Undisturbed P (finishOp r v P) := by
  unfold finishOp
  dsimp only
  split
  · exact ⟨rfl, rfl, rfl⟩
  · exact .rfl

theorem undisturbed_endOpAtRest (v : ValveId) (P : Plant) : Undisturbed P (endOpAtRest v P) := by
  unfold endOpAtRest
  split
  · exact undisturbed_finishOp _ v P
  · exact undisturbed_finishOp _ v P
  · exact .rfl

theorem calm_valveSigs (v : ValveId) (r r' : Valve) : Calm (valveSigs v r r') := by
  unfold valveSigs
  cases v <;> simp [Sig.ofLevel, valveFault]

theorem aside_applyValve (v : ValveId) (r : Valve) (P : Plant) : Aside P (applyValve v r P) :=
  ⟨(undisturbed_endOpAtRest v (P.setValve v r)).after ⟨rfl, rfl, rfl⟩, calm_valveSigs _ _ _⟩

theorem aside_guardAsk (v : ValveId) (n : Nat) (e : Env) (P : Plant) : Aside P (handleGuardAsk v n e P) :=
  (aside_applyValve v _ _).after (undisturbed_finishOp .preempted v P)

theorem aside_takePumpsRequest (q : PumpsRequest) (e : Env) (P : Plant) : Aside P (takePumpsRequest q e P) := by
  unfold takePumpsRequest
  dsimp only
  split <;> exact aside_applyValve _ _ P

theorem aside_pumpsAsk (q : PumpsRequest) (e : Env) (P : Plant) : Aside P (handlePumpsAsk q e P) := by
  unfold handlePumpsAsk
  dsimp only
  split
  · exact aside_stay P calm_nil
  · split
    · exact ⟨⟨rfl, rfl, rfl⟩, calm_nil⟩
    · exact (aside_takePumpsRequest q e _).after (undisturbed_finishOp .preempted .inlet P)

theorem aside_guardRelease (v : ValveId) (e : Env) (P : Plant) : Aside P (handleGuardRelease v e P) := by
  unfold handleGuardRelease
  dsimp only
  split
  · split
    · split
      · exact (aside_takePumpsRequest _ e _).after ⟨rfl, rfl, rfl⟩
      · exact ⟨⟨rfl, rfl, rfl⟩, calm_nil⟩
    · exact ⟨⟨rfl, rfl, rfl⟩, calm_nil⟩
  · exact aside_stay P calm_nil

/-! #### Frost unit -/

theorem undisturbed_heatEvent (e : Env) (z : Zone) (P : Plant) : Undisturbed P (heatEvent e z P) := by
  unfold heatEvent
  split
  · exact ⟨rfl, rfl, rfl⟩
  · exact .rfl

theorem aside_releaseZone (e : Env) (z : Zone) (st : ZoneState) (P : Plant) : Aside P (releaseZone e z st P) := by
  obtain ⟨ha, hw, hr⟩ := undisturbed_heatEvent e z P
  exact ⟨⟨ha, hw, hr⟩, by simp [releaseZone, Sig.ofLevel]⟩

theorem aside_claimZone (e : Env) (z : Zone) (P : Plant) : Aside P (claimZone e z P) :=
  ⟨⟨rfl, rfl, rfl⟩, by simp [claimZone, Sig.ofLevel]⟩

theorem aside_zoneJudge (z : Zone) (e : Env) (P : Plant) : Aside P (handleZoneJudge z e P) := by
  unfold handleZoneJudge
  dsimp only
  split
  · exact aside_stay P calm_nil
  · split
    · split
      · exact aside_claimZone e z P
      · exact aside_stay P calm_nil
    · split
      · exact aside_releaseZone e z .off P
      · exact aside_stay P calm_nil
    · split
      · exact aside_releaseZone e z .off P
      · exact aside_stay P calm_nil
    · exact aside_stay P calm_nil

theorem aside_zoneClass (z : Zone) (e : Env) (P : Plant) : Aside P (handleZoneClass z e P) := by
  unfold handleZoneClass
  split
  · exact aside_stay P (by simp [Sig.ofLevel])
  · exact aside_stay P calm_nil

theorem aside_grantedZone (z : Zone) (P : Plant) : Aside P (grantedZone z P) := by
  unfold grantedZone
  dsimp only
  split
  · exact ⟨⟨rfl, rfl, rfl⟩, by simp [Sig.ofLevel]⟩
  · exact aside_stay P calm_nil

theorem aside_revokedZone (e : Env) (z : Zone) (P : Plant) : Aside P (revokedZone e z P) := by
  unfold revokedZone
  dsimp only
  split
  · refine ⟨?_, calm_nil⟩
    split <;> exact ⟨rfl, rfl, rfl⟩
  · exact aside_stay P calm_nil

theorem aside_zoneDuty (z : Zone) (e : Env) (P : Plant) : Aside P (handleZoneDuty z e P) := by
  unfold handleZoneDuty
  split
  · split
    · exact aside_stay P (by simp [Sig.ofLevel])
    · exact aside_stay P (by simp [Sig.ofLevel])
    · exact aside_releaseZone e z .fallback P
    · exact aside_stay P calm_nil
  · exact aside_stay P calm_nil

theorem calm_judgeSigs (z : Zone) : Calm (judgeSigs z) := by simp [judgeSigs, Sig.ofLevel]
theorem calm_clearedSigs (z : Zone) : Calm (clearedSigs z) := by simp [clearedSigs, Sig.ofLevel]
theorem ofLevel_zoneSensor (z : Zone) (b : Bool) : (Sig.cond (zoneSensor z) b).ofLevel = false := by cases z <;> rfl

theorem aside_leaveFallback (z : Zone) (b : Bool) (P : Plant) : Aside P (leaveFallback z b P) := by
  refine ⟨⟨rfl, rfl, rfl⟩, ?_⟩
  unfold leaveFallback
  simp [Sig.ofLevel, calm_judgeSigs, calm_clearedSigs]

theorem aside_zoneRead (z : Zone) (a : Option Int) (e : Env) (P : Plant) : Aside P (handleZoneRead z a e P) := by
  unfold handleZoneRead
  dsimp only
  split
  · split
    · exact ⟨⟨rfl, rfl, rfl⟩, by simp [Sig.ofLevel, ↓ofLevel_zoneSensor, (aside_leaveFallback z _ _).2]⟩
    · exact ⟨⟨rfl, rfl, rfl⟩, by simp [Sig.ofLevel, calm_judgeSigs, calm_clearedSigs]⟩
  · split
    · exact ⟨⟨rfl, rfl, rfl⟩, by simp [enterFallback, Sig.ofLevel, ↓ofLevel_zoneSensor]⟩
    · exact ⟨⟨rfl, rfl, rfl⟩, calm_nil⟩

theorem aside_airRead (a : Option Int) (P : Plant) : Aside P (handleAirRead a P) :=
  ⟨⟨rfl, rfl, rfl⟩, by simp [handleAirRead, Sig.ofLevel]⟩

theorem aside_boostZone (e : Env) (z : Zone) (P : Plant) : Aside P (boostZone e z P) := by
  unfold boostZone
  split
  · exact ⟨⟨rfl, rfl, rfl⟩, calm_judgeSigs z⟩
  · exact aside_stay P calm_nil

theorem aside_circRefuse (r : Refused) (e : Env) (P : Plant) : Aside P (handleCircRefuse r e P) := by
  have h1 := aside_boostZone e .z1 (P.setCirc ⟨.refused, 0, 0, 0, some r⟩)
  have h2 := aside_boostZone e .z2 (boostZone e .z1 (P.setCirc ⟨.refused, 0, 0, 0, some r⟩)).1
  exact ⟨(h2.1.after h1.1).after ⟨rfl, rfl, rfl⟩, by simp [handleCircRefuse, Sig.ofLevel, h1.2, h2.2]⟩

theorem aside_askCirc (e : Env) (P : Plant) : Aside P (askCirc e P) := by
  unfold askCirc
  split
  · exact ⟨⟨rfl, rfl, rfl⟩, by simp [demandCirc, Sig.ofLevel]⟩
  · exact aside_circRefuse _ e P

theorem aside_circTest (e : Env) (P : Plant) : Aside P (handleCircTest e P) := by
  unfold handleCircTest
  split
  · exact aside_askCirc e P
  · exact aside_stay P calm_nil

theorem aside_circRetry (e : Env) (P : Plant) : Aside P (handleCircRetry e P) := by
  unfold handleCircRetry
  split
  · split
    · exact aside_askCirc e P
    · exact ⟨⟨rfl, rfl, rfl⟩, calm_nil⟩
  · exact aside_stay P calm_nil

theorem aside_circEntry (P : Plant) : Aside P (handleCircEntry P) := by
  unfold handleCircEntry
  split
  · exact ⟨⟨rfl, rfl, rfl⟩, calm_nil⟩
  · exact aside_stay P calm_nil

theorem aside_circExit (P : Plant) : Aside P (handleCircExit P) := by
  unfold handleCircExit
  split
  · exact ⟨⟨rfl, rfl, rfl⟩, calm_nil⟩
  · exact aside_stay P calm_nil

theorem aside_circGuardEnd (e : Env) (P : Plant) : Aside P (circGuardEnd e P) := by
  unfold circGuardEnd
  split
  · exact aside_circRefuse _ e P
  · exact aside_stay P calm_nil

/-! #### Grants and revocations -/

theorem aside_ownerTakes (e : Env) (a : Award) (P : Plant) : Aside P (ownerTakes e a P) := by
  unfold ownerTakes
  split
  · exact aside_stay P (by simp [Sig.ofLevel])
  · exact aside_grantedZone _ P
  · exact aside_revokedPump e _ P
  · exact aside_revokedZone e _ P

theorem aside_ownersTake (e : Env) (as : List Award) (P : Plant) : Aside P (ownersTake e as P) :=
  ownersTake_keeps e (Undisturbed P) (fun g => g.ofLevel = false)
    (fun a Q h => ⟨(aside_ownerTakes e a Q).1.after h, (aside_ownerTakes e a Q).2⟩) as P .rfl

theorem aside_walk (e : Env) (P : Plant) : Aside P (handleWalk e P) :=
  (aside_ownersTake e _ _).after ⟨rfl, rfl, rfl⟩

theorem aside_setCap (e : Env) (P : Plant) : Aside P (handleSetCap e P) := by
  have h := aside_ownersTake e (P.load.setCap e.cfg.set (e.clock.tariff == .cheap)).2
    (P.setLoad (P.load.setCap e.cfg.set (e.clock.tariff == .cheap)).1)
  exact ⟨h.1.after ⟨rfl, rfl, rfl⟩, (calm_append _ _).mpr ⟨h.2, calm_capSigs _ _⟩⟩

/-! #### Overflow guard -/

theorem aside_guardTests (e : Env) (P : Plant) : Aside P (handleGuardTests e P) := by
  refine ⟨?_, by simp [handleGuardTests, Sig.ofLevel]⟩
  unfold handleGuardTests
  dsimp only
  split <;> exact ⟨rfl, rfl, rfl⟩

theorem calm_guardValveSigs (e : Env) (g : GuardCore) (st : GuardState) : Calm (guardValveSigs e g st) := by
  unfold guardValveSigs; simp [Sig.ofLevel]

theorem aside_guardHanded (e : Env) (P : Plant) : Aside P (guardHanded e P) := by
  have h := aside_circGuardEnd e (handleStatus .guard e P).1
  exact ⟨h.1.after ⟨rfl, rfl, rfl⟩, by simp [guardHanded, Sig.ofLevel, h.2]⟩

theorem aside_guardEval (e : Env) (P : Plant) : Aside P (handleGuardEval e P) := by
  unfold handleGuardEval
  dsimp only
  split
  · exact aside_stay P calm_nil
  · have hy := aside_guardHanded e (P.setGuard { P.guard with
      core := P.guard.core.become e (chooseGuard e P.guard.core).1 (chooseGuard e P.guard.core).2, age := 0, ageSecs := 0 })
    have hz := aside_limit (guardLimit (chooseGuard e P.guard.core).1 (chooseGuard e P.guard.core).2) (guardHanded e
      (P.setGuard { P.guard with
        core := P.guard.core.become e (chooseGuard e P.guard.core).1 (chooseGuard e P.guard.core).2, age := 0, ageSecs := 0 })).1
    exact ⟨(hz.1.after hy.1).after ⟨rfl, rfl, rfl⟩,
      (calm_append _ _).mpr ⟨(calm_append _ _).mpr ⟨hz.2, calm_guardValveSigs _ _ _⟩, hy.2⟩⟩

theorem aside_overChange (e : Env) (P : Plant) : Aside P (handleOverChange e P) := by
  unfold handleOverChange
  split
  · unfold overWets
    dsimp only
    split <;> exact ⟨⟨rfl, rfl, rfl⟩, by simp [Sig.ofLevel]⟩
  · refine ⟨?_, by simp [overDries, Sig.ofLevel]⟩
    unfold overDries
    dsimp only
    split
    · exact ⟨rfl, rfl, rfl⟩
    · exact .rfl

/-! #### Fill unit and telemetry unit -/

theorem aside_planEval (e : Env) (P : Plant) : Aside P (handlePlanEval e P) :=
  ⟨⟨rfl, rfl, rfl⟩, by simp [handlePlanEval, Sig.ofLevel]⟩

theorem aside_boostTest (e : Env) (P : Plant) : Aside P (handleBoostTest e P) := by
  rcases handleBoostTest_cases e P with h | ⟨b, r, -, h⟩ <;> rw [h]
  · exact aside_stay P calm_nil
  · exact aside_stay P (by simp [Sig.ofLevel])

theorem aside_fillPublication (b : Bool) (e : Env) (P : Plant) : Aside P (handleFillPublication b e P) :=
  ⟨⟨rfl, rfl, rfl⟩, by simp [handleFillPublication, Sig.ofLevel]⟩

theorem aside_endBoost (r : BoostEnd) (P : Plant) : Aside P (handleEndBoost r P) := by
  rcases handleEndBoost_cases r P with ⟨-, h⟩ | ⟨-, h⟩ <;> rw [h]
  · exact aside_stay P calm_nil
  · exact ⟨⟨rfl, rfl, rfl⟩, by simp [Sig.ofLevel]⟩

theorem aside_fillWindowStart (e : Env) (P : Plant) : Aside P (handleFillWindowStart e P) :=
  ⟨⟨rfl, rfl, rfl⟩, by simp [handleFillWindowStart, Sig.ofLevel]⟩

theorem atEnd_lowWet (u : Pumps) (f : Fill) : (f.atEnd u).lowWet = f.lowWet := by
  unfold Fill.atEnd
  split <;> rfl

theorem aside_fillWindowEnd (e : Env) (P : Plant) : Aside P (handleFillWindowEnd e P) := by
  unfold handleFillWindowEnd
  dsimp only
  split <;> exact ⟨⟨rfl, atEnd_lowWet _ _, rfl⟩, by simp [Sig.ofLevel]⟩

theorem aside_telemPublication (e : Env) (P : Plant) : Aside P (handleTelemPublication e P) := by
  refine ⟨?_, calm_nil⟩
  unfold handleTelemPublication
  dsimp only
  split
  · exact ⟨rfl, rfl, rfl⟩
  · exact .rfl

/-! #### Any hand-over -/

/-- Every hand-over but an appearance or going of a condition and a judgement of the reserve leaves the alarm table, the LOW wet timer
and the reserve as they were, and hands on none of the level unit's conditions. -/
theorem aside_handle (g : Sig) (e : Env) (P : Plant) (hc : ∀ k b, g ≠ .cond k b) (hf : g ≠ .freezeAlarm)
    (hr : g ≠ .reserveJudge) : Aside P (handle g e P) := by
  cases g
  case cond k b => exact absurd rfl (hc k b)
  case freezeAlarm => exact absurd rfl hf
  case reserveJudge => exact absurd rfl hr
  case claim l c => exact aside_claim l c e P
  case classChange l c => exact aside_classChange l c e P
  case release l => exact aside_release l e P
  case walk => exact aside_walk e P
  case setCap => exact aside_setCap e P
  case callUncalls => exact aside_uncalls e P
  case rotationCheck => exact aside_rotationCheck P
  case callServe => exact aside_servePlaces P 1 _
  case callCalls => exact aside_calls e P
  case inletRequest => exact aside_inletRequest P
  case startCheck => exact aside_startCheck e P
  case rotationRequest => exact aside_rotationRequest P
  case limit l => exact aside_limit l P
  case circDemand on => exact aside_circDemand on P
  case inletMoved => exact aside_inletMoved e P
  case inletAskAgain => exact aside_askAgain P
  case guardAsk v n => exact aside_guardAsk v n e P
  case guardRelease v => exact aside_guardRelease v e P
  case pumpsAsk q => exact aside_pumpsAsk q e P
  case guardTests => exact aside_guardTests e P
  case guardEval => exact aside_guardEval e P
  case overChange => exact aside_overChange e P
  case boostTest => exact aside_boostTest e P
  case fillPublication b => exact aside_fillPublication b e P
  case planEval => exact aside_planEval e P
  case endBoost r => exact aside_endBoost r P
  case fillWindowStart => exact aside_fillWindowStart e P
  case fillWindowEnd => exact aside_fillWindowEnd e P
  case zoneRead z a => exact aside_zoneRead z a e P
  case airRead a => exact aside_airRead a P
  case zoneJudge z => exact aside_zoneJudge z e P
  case zoneClass z => exact aside_zoneClass z e P
  case zoneDuty z => exact aside_zoneDuty z e P
  case circTest => exact aside_circTest e P
  case circRetry => exact aside_circRetry e P
  case circRefuse r => exact aside_circRefuse r e P
  case circEntry => exact aside_circEntry P
  case circExit => exact aside_circExit P
  case telemPublication => exact aside_telemPublication e P
  case callEval | dutyChanged | pumpState =>
    exact aside_stay P (by simp [Sig.ofLevel])
  all_goals exact ⟨⟨rfl, rfl, rfl⟩, calm_nil⟩

end Sys2Proof.Machine
end

section
namespace Sys2Proof.Machine

/-! ### The alarm table (R150 to R152) -/

theorem AlarmKind.place_inj {j k : AlarmKind} (h : j.place = k.place) : j = k := by
  revert h
  cases j <;> cases k <;> decide

theorem AlarmKind.place_lt (k : AlarmKind) : k.place < 24 := by cases k <;> decide

theorem Alarms.get_put_ne (a : Alarms) {j k : AlarmKind} (r : AlarmRec) (h : j ≠ k) : (a.put k r).get j = a.get j := by
  have hp : k.place ≠ j.place := fun hp => h (AlarmKind.place_inj hp).symm
  simp [Alarms.get, Alarms.put, List.getElem?_set_ne hp]

theorem Alarms.get_put_same (a : Alarms) (k : AlarmKind) (r : AlarmRec) (h : a.table.length = 24) :
    (a.put k r).get k = r := by
  simp [Alarms.get, Alarms.put, h, k.place_lt]

/-- Renumbering the raise sequences leaves every record its state (R152). -/
theorem Alarms.readyRaise_state (a : Alarms) (k : AlarmKind) : (a.readyRaise.get k).state = (a.get k).state := by
  unfold Alarms.readyRaise
  split
  · rfl
  · simp only [Alarms.get, Alarms.renumber, List.getD_eq_getElem?_getD, List.getElem?_map]
    cases a.table[k.place]? <;> rfl

theorem Alarms.length_readyRaise (a : Alarms) : a.readyRaise.table.length = a.table.length := by
  unfold Alarms.readyRaise
  split
  · rfl
  · simp [Alarms.renumber]

theorem Alarms.get_congr {a b : Alarms} (h : a.table = b.table) (k : AlarmKind) : a.get k = b.get k := by
  simp only [Alarms.get, h]

/-- The table after a change of a record: a new raise where it leaves QUIET for ACTIVE, the new state alone otherwise (R152). -/
theorem changeAlarm_table (e : Env) (P : Plant) (k : AlarmKind) (new : AlarmState) :
    (changeAlarm e P k new).alarms.table =
      if (P.alarms.get k).state = .quiet ∧ new = .active then (P.alarms.raise k e.clock.stamp).table
      else (P.alarms.put k { P.alarms.get k with state := new }).table := by
  unfold changeAlarm
  dsimp only
  by_cases hr : (P.alarms.get k).state = .quiet ∧ new = .active <;> simp [hr]

theorem changeAlarm_length (e : Env) (P : Plant) (k : AlarmKind) (new : AlarmState) :
    (changeAlarm e P k new).alarms.table.length = P.alarms.table.length := by
  rw [changeAlarm_table]
  split <;> simp [Alarms.raise, Alarms.put, Alarms.length_readyRaise]

/-- A change of one record leaves every other its state. -/
theorem changeAlarm_state_ne (e : Env) (P : Plant) {j k : AlarmKind} (new : AlarmState) (h : j ≠ k) :
    ((changeAlarm e P k new).alarms.get j).state = (P.alarms.get j).state := by
  have ht := changeAlarm_table e P k new
  split at ht
  · rw [Alarms.get_congr ht]
    exact (congrArg AlarmRec.state (Alarms.get_put_ne _ _ h)).trans (Alarms.readyRaise_state _ _)
  · rw [Alarms.get_congr ht, Alarms.get_put_ne _ _ h]

theorem changeAlarm_state_same (e : Env) (P : Plant) (k : AlarmKind) (new : AlarmState)
    (h : P.alarms.table.length = 24) : ((changeAlarm e P k new).alarms.get k).state = new := by
  have ht := changeAlarm_table e P k new
  split at ht
  · rename_i hr
    rw [Alarms.get_congr ht, hr.2]
    exact congrArg AlarmRec.state (Alarms.get_put_same _ k _ ((Alarms.length_readyRaise _).trans h))
  · rw [Alarms.get_congr ht, Alarms.get_put_same _ k _ h]

/-! ### An appearance or a going (R151) -/

/-- The plant after an appearance or a going: as it was, or with one record changed. -/
theorem handleCond_cases (k : AlarmKind) (b : Bool) (e : Env) (P : Plant) :
    let new := if b then (P.alarms.get k).state.appeared else (P.alarms.get k).state.gone
    (new = (P.alarms.get k).state ∧ (handleCond k b e P).1 = P) ∨ (handleCond k b e P).1 = changeAlarm e P k new := by
  unfold handleCond
  dsimp only
  by_cases h : (if b then (P.alarms.get k).state.appeared else (P.alarms.get k).state.gone) = (P.alarms.get k).state
  · exact .inl ⟨h, if_pos h⟩
  · exact .inr (if_neg h)

theorem present_turned (b : Bool) (st : AlarmState) : (if b then st.appeared else st.gone).present = b := by
  cases b <;> cases st <;> rfl

/-- After its appearance a condition is present, after its going it is absent. -/
theorem handleCond_present (k : AlarmKind) (b : Bool) (e : Env) (P : Plant) (h : P.alarms.table.length = 24) :
    ((handleCond k b e P).1.alarms.get k).state.present = b := by
  rcases handleCond_cases k b e P with ⟨hs, hP⟩ | hP
  · rw [hP, ← hs, present_turned]
  · rw [hP, changeAlarm_state_same e P k _ h, present_turned]

theorem handleCond_state_ne (b : Bool) (e : Env) (P : Plant) {j k : AlarmKind} (h : j ≠ k) :
    ((handleCond k b e P).1.alarms.get j).state = (P.alarms.get j).state := by
  rcases handleCond_cases k b e P with ⟨-, hP⟩ | hP <;> rw [hP]
  exact changeAlarm_state_ne e P _ h

theorem handleCond_length (k : AlarmKind) (b : Bool) (e : Env) (P : Plant) :
    (handleCond k b e P).1.alarms.table.length = P.alarms.table.length := by
  rcases handleCond_cases k b e P with ⟨-, hP⟩ | hP <;> rw [hP]
  exact changeAlarm_length e P k _

theorem handleCond_lowWet (k : AlarmKind) (b : Bool) (e : Env) (P : Plant) :
    (handleCond k b e P).1.fill.lowWet = P.fill.lowWet := by
  rw [(handleCond_leaves k b e P).2]

theorem handleCond_reserve (k : AlarmKind) (b : Bool) (e : Env) (P : Plant) :
    (handleCond k b e P).1.pumps.reserve = P.pumps.reserve := by
  rw [(handleCond_leaves k b e P).2]

/-- A condition handed first is carried out and hands nothing on. -/
theorem settleFrom_cond (e : Env) (n : Nat) (x : Option BoostEnd) (k : AlarmKind) (b : Bool) (gs : List Sig) (P : Plant) :
    settleFrom e (n + 1) x (.cond k b :: gs) P = settleFrom e n x gs (handleCond k b e P).1 :=
  settleFrom_cons_of_quiet e n x _ gs P _ (fun _ h => by cases h) rfl

/-! ### The reserve judged (R107) -/

/-- A judgement of the reserve moves the reserve alone, and hands on LOW_RESERVE, the calls and a PLAN notice. -/
theorem handleReserveJudge_leaves (e : Env) (P : Plant) :
    (handleReserveJudge e P).1 = P.setPumps { P.pumps with reserve := reserveAfter e P } ∧
      Calm (handleReserveJudge e P).2 := by
  unfold handleReserveJudge
  dsimp only
  split
  · rename_i h
    exact ⟨by rw [h]; rfl, calm_nil⟩
  · exact ⟨rfl, by simp [Sig.ofLevel]⟩

/-- A hand-over moves one condition, or judges the reserve, or leaves the alarm table, the LOW wet timer and the reserve. -/
theorem handle_cases (g : Sig) (e : Env) (P : Plant) :
    (∃ k b, (g = .cond k b ∨ k = .freeze) ∧ handle g e P = handleCond k b e P) ∨
      handle g e P = handleReserveJudge e P ∨ Aside P (handle g e P) := by
  by_cases hc : ∃ k b, g = .cond k b
  · obtain ⟨k, b, rfl⟩ := hc
    exact .inl ⟨k, b, .inl rfl, rfl⟩
  · by_cases hf : g = .freezeAlarm
    · subst hf
      exact .inl ⟨.freeze, _, .inr rfl, rfl⟩
    · by_cases hr : g = .reserveJudge
      · subst hr
        exact .inr (.inl rfl)
      · exact .inr (.inr (aside_handle g e P (fun k b hk => hc ⟨k, b, hk⟩) hf hr))

/-! ### Chains of hand-overs -/

/-- The level unit's conditions stand. -/
def SameLevelConds (P Q : Plant) : Prop :=
  (Q.alarms.get .levelSensor).state = (P.alarms.get .levelSensor).state ∧
    (Q.alarms.get .levelDisagree).state = (P.alarms.get .levelDisagree).state

theorem SameLevelConds.of_alarms {P Q : Plant} (h : Q.alarms = P.alarms) : SameLevelConds P Q := by
  simp [SameLevelConds, h]

theorem SameLevelConds.trans {P Q R : Plant} (h : SameLevelConds P Q) (k : SameLevelConds Q R) : SameLevelConds P R :=
  ⟨k.1.trans h.1, k.2.trans h.2⟩

/-- A hand-over that is of neither of the level unit's conditions leaves both, and hands on neither. -/
theorem handle_calm (g : Sig) (e : Env) (P : Plant) (h : g.ofLevel = false) :
    SameLevelConds P (handle g e P).1 ∧ Calm (handle g e P).2 := by
  rcases handle_cases g e P with ⟨k, b, hk, hg⟩ | hg | ⟨hP, hg⟩
  · have h1 : AlarmKind.levelSensor ≠ k := by
      rintro rfl
      rcases hk with rfl | hk
      · cases h
      · cases hk
    have h2 : AlarmKind.levelDisagree ≠ k := by
      rintro rfl
      rcases hk with rfl | hk
      · cases h
      · cases hk
    rw [hg]
    exact ⟨⟨handleCond_state_ne b e P h1, handleCond_state_ne b e P h2⟩, calm_nil⟩
  · obtain ⟨hP, hc⟩ := handleReserveJudge_leaves e P
    rw [hg]
    exact ⟨.of_alarms (by rw [hP]; rfl), hc⟩
  · exact ⟨.of_alarms hP.alarms, hg⟩

theorem ofLevel_informed (g : Sig) (b : Option BoostEnd) (h : g.ofLevel = false) : (g.informed b).ofLevel = false := by
  unfold Sig.informed
  split
  · rfl
  · exact h

/-- A chain that begins with neither of the level unit's conditions leaves both. -/
theorem settleFrom_calm (e : Env) (n : Nat) (b : Option BoostEnd) (gs : List Sig) (P : Plant) (h : Calm gs) :
    SameLevelConds P (settleFrom e n b gs P) :=
  settleFrom_keeps_of e (SameLevelConds P) (fun g => g.ofLevel = false) (fun _ hQ => hQ)
    (fun g b hg => ofLevel_informed g b hg)
    (fun g Q hg hQ => ⟨hQ.trans (handle_calm g e Q hg).1, (handle_calm g e Q hg).2⟩) n b gs P h ⟨rfl, rfl⟩

theorem handle_lowWet (g : Sig) (e : Env) (P : Plant) : (handle g e P).1.fill.lowWet = P.fill.lowWet := by
  rcases handle_cases g e P with ⟨k, b, -, hg⟩ | hg | ⟨hP, -⟩
  · rw [hg, handleCond_lowWet]
  · rw [hg, (handleReserveJudge_leaves e P).1]
    rfl
  · exact hP.lowWet

/-- No hand-over moves the LOW wet timer (R107). -/
theorem settle_lowWet (e : Env) (n : Nat) (gs : List Sig) (P : Plant) : (settle e n gs P).fill.lowWet = P.fill.lowWet :=
  settle_const e (fun Q => Q.fill.lowWet) (fun _ => rfl) (fun g Q => handle_lowWet g e Q) n gs P

/-- With the LOW float DRY every judgement finds the reserve ON (R107 a). -/
theorem reserveAfter_of_dry {e : Env} (h : e.level.low.reported = .dry) (P : Plant) : reserveAfter e P = true := by
  simp [reserveAfter, h]

theorem handleReserveJudge_of_dry {e : Env} (h : e.level.low.reported = .dry) (P : Plant) :
    (handleReserveJudge e P).1.pumps.reserve = true := by
  rw [(handleReserveJudge_leaves e P).1]
  exact reserveAfter_of_dry h P

/-- With the LOW float DRY a reserve that is ON stays ON. -/
theorem handle_reserve_of_dry (g : Sig) {e : Env} (he : e.level.low.reported = .dry) (P : Plant)
    (h : P.pumps.reserve = true) : (handle g e P).1.pumps.reserve = true := by
  rcases handle_cases g e P with ⟨k, b, -, hg⟩ | hg | ⟨hP, -⟩
  · rw [hg, handleCond_reserve, h]
  · rw [hg, handleReserveJudge_of_dry he]
  · rw [hP.reserve, h]

theorem settleFrom_reserve_of_dry {e : Env} (he : e.level.low.reported = .dry) (n : Nat) (b : Option BoostEnd)
    (gs : List Sig) (P : Plant) (h : P.pumps.reserve = true) : (settleFrom e n b gs P).pumps.reserve = true :=
  settleFrom_keeps e (fun Q => Q.pumps.reserve = true) (fun _ hQ => hQ)
    (fun g Q hQ => handle_reserve_of_dry g he Q hQ) n b gs P h

/-- A judgement of the reserve in a chain, the LOW float DRY, leaves the reserve ON at the chain's end. -/
theorem settleFrom_reserveJudge_of_dry {e : Env} (he : e.level.low.reported = .dry) (n : Nat) (b : Option BoostEnd)
    (gs : List Sig) (P : Plant) : (settleFrom e (n + 1) b (.reserveJudge :: gs) P).pumps.reserve = true := by
  rw [settleFrom_cons]
  exact settleFrom_reserve_of_dry he _ _ _ _ (handleReserveJudge_of_dry he P)

end Sys2Proof.Machine
end

section
namespace Sys2Proof.Machine

/-! ### The time to overflow (R11) -/

theorem tOvfOf_rising (c : Settings) (lv : Level) {r : Int} (hr : lv.rate = some r) (h : 0 < r) :
    tOvfOf c lv = if lv.shown < c.lOver then min 999 ((c.lOver - lv.shown) / r.toNat) else 0 := by
  unfold tOvfOf
  rw [hr]
  dsimp only
  rw [if_neg (Int.not_le.mpr h)]
  by_cases hs : lv.shown < c.lOver
  · rw [if_neg (Nat.not_le.mpr hs), if_pos hs]
    rfl
  · rw [if_pos (Nat.not_lt.mp hs), if_neg hs]

theorem tOvfOf_not_rising (c : Settings) (lv : Level) (h : lv.rate = none ∨ ∃ r : Int, lv.rate = some r ∧ r ≤ 0) :
    tOvfOf c lv = 999 := by
  unfold tOvfOf
  rcases h with hr | ⟨r, hr, h⟩ <;> rw [hr]
  · rfl
  · exact if_pos h

/-! ### The minute timer (R10) -/

theorem rateNow_known {lv : Level} {l : Nat} (h : lv.snapshot = some ⟨l, true⟩) (hg : lv.goodSince = true) :
    lv.rateNow = some (clampInt (-2000) 2000 ((lv.filtered : Int) - l)) := by
  unfold Level.rateNow
  rw [h]
  exact if_pos hg

theorem rateNow_unknown {lv : Level}
    (h : lv.snapshot = none ∨ (∃ l, lv.snapshot = some ⟨l, false⟩) ∨ lv.goodSince = false) : lv.rateNow = none := by
  unfold Level.rateNow
  rcases h with h | ⟨l, h⟩ | h
  · rw [h]
  · rw [h]
  · split
    · exact if_neg (by simp [h])
    · rfl

/-- Settles O18: the rate of R10, and the time to overflow reckoned on it (R11). -/
theorem levelMinute : Obligations.LevelMinute := by
  intro s
  refine ⟨s.env.level.minute s.env.cfg.set, rfl, rfl, fun l => rateNow_known, rateNow_unknown, rfl, ?_, ?_, ?_, ?_⟩
  · intro r hr h hs
    exact (tOvfOf_rising s.env.cfg.set _ hr h).trans (if_pos hs)
  · intro r hr h hs
    exact (tOvfOf_rising s.env.cfg.set _ hr h).trans (if_neg (Nat.not_lt.mpr hs))
  · intro r hr h
    exact tOvfOf_not_rising s.env.cfg.set _ (.inr ⟨r, hr, h⟩)
  · intro hr
    exact tOvfOf_not_rising s.env.cfg.set _ (.inl hr)

/-! ### LEVEL_DISAGREE (R14) -/

theorem disagrees_iff (w : Wet) (h tol l : Nat) :
    disagrees w h tol l = true ↔ (w = .wet ∧ l + tol < h) ∨ (w = .dry ∧ h + tol < l) := by
  cases w <;> simp [disagrees]

theorem levelDisagrees_iff (c : Settings) (lv : Level) : levelDisagrees c lv = true ↔ floatsDisagree c lv := by
  unfold levelDisagrees floatsDisagree
  by_cases hq : lv.quality = .good
  · simp [hq, Level.shown, disagrees_iff]
  · simp [hq]

/-- LEVEL_DISAGREE handed before hand-overs that are none of the level unit's conditions stands at the end as handed, and LEVEL_SENSOR
as it was. -/
theorem settleFrom_levelDisagree (e : Env) (n : Nat) (x : Option BoostEnd) (b : Bool) {gs : List Sig} (hg : Calm gs)
    (P : Plant) :
    let Q := settleFrom e (n + 1) x (.cond .levelDisagree b :: gs) P
    (P.alarms.table.length = 24 → (Q.alarms.get .levelDisagree).state.present = b) ∧
      (Q.alarms.get .levelSensor).state = (P.alarms.get .levelSensor).state := by
  dsimp only
  rw [settleFrom_cond]
  obtain ⟨hs, hd⟩ := settleFrom_calm e n x gs (handleCond .levelDisagree b e P).1 hg
  refine ⟨fun h => ?_, ?_⟩
  · rw [hd, handleCond_present _ b e P h]
  · rw [hs, handleCond_state_ne b e P (by decide)]

/-! ### A float change (R12, R107) -/

theorem FloatRec.see_eq (f : FloatRec) (w : Wet) :
    f.see w = ⟨f.reported, if w = f.reported then none else some (f.debounce.getD 0)⟩ := by
  unfold FloatRec.see
  split <;> rfl

theorem exec_floatContactChange (f : FloatId) (w : Wet) (s : State) (h : s.env.sys.mode ≠ .commission) :
    exec (.floatContactChange f w) s = .next { s with env := { s.env with
      pins := s.env.pins.setFloat f w
      level := s.env.level.setFloat f ⟨(s.env.level.float f).reported,
        if w = (s.env.level.float f).reported then none else some ((s.env.level.float f).debounce.getD 0)⟩ } } := by
  show execFloatContactChange f w s = _
  unfold execFloatContactChange
  rw [← FloatRec.see_eq]
  exact congrArg Host.Outcome.next (if_neg h)

theorem exec_floatContactChange_commission (f : FloatId) (w : Wet) (s : State) (h : s.env.sys.mode = .commission) :
    exec (.floatContactChange f w) s = .next { s with env := { s.env with pins := s.env.pins.setFloat f w } } := by
  show execFloatContactChange f w s = _
  unfold execFloatContactChange
  exact congrArg Host.Outcome.next (if_pos h)

theorem exec_floatDebounceExpiry (f : FloatId) (s : State) (h : (s.env.level.float f).debounce.isSome = true) :
    exec (.floatDebounceExpiry f) s = .next (floatChange f s) := by
  show execFloatDebounceExpiry f s = _
  unfold execFloatDebounceExpiry
  rw [if_pos h]

theorem floatChange_env (f : FloatId) (s : State) : (floatChange f s).env =
    { s.env with level := s.env.level.setFloat f ⟨otherWet (s.env.level.float f).reported, none⟩ } := by
  cases f <;> rfl

/-- The plant that the hand-overs of a float change find. -/
def plantAtFloatChange (f : FloatId) (P : Plant) : Plant := if f = .low then lowChanged P else P

theorem plantAtFloatChange_alarms (f : FloatId) (P : Plant) : (plantAtFloatChange f P).alarms = P.alarms := by
  cases f <;> rfl

theorem floatChange_plant (f : FloatId) (s : State) : (floatChange f s).plant =
    settle (floatChange f s).env 2048 (floatSigs (floatChange f s).env f) (plantAtFloatChange f s.plant) := by
  cases f <;> rfl

/-- A float change hands LEVEL_DISAGREE first, and then no condition of the level unit. -/
theorem floatSigs_eq (e : Env) (f : FloatId) :
    ∃ gs, floatSigs e f = .cond .levelDisagree (levelDisagrees e.cfg.set e.level) :: gs ∧ Calm gs := by
  cases f <;> exact ⟨_, rfl, by simp [Sig.ofLevel]⟩

theorem floatChange_levelDisagree (f : FloatId) (s : State) (h : s.plant.alarms.table.length = 24) :
    (((floatChange f s).plant.alarms.get .levelDisagree).state.present = true ↔
      floatsDisagree s.env.cfg.set (floatChange f s).env.level) := by
  obtain ⟨gs, hs, hg⟩ := floatSigs_eq (floatChange f s).env f
  rw [floatChange_plant, hs, settle,
    (settleFrom_levelDisagree _ 2047 none _ hg _).1 (by rw [plantAtFloatChange_alarms, h]), levelDisagrees_iff]
  rw [floatChange_env]

theorem floatChange_lowWet (s : State) : (floatChange .low s).plant.fill.lowWet = 0 := by
  rw [floatChange_plant, settle_lowWet]
  rfl

/-- A LOW float that turns DRY turns the reserve ON (R107 a). -/
theorem floatChange_reserve (s : State) (h : s.env.level.low.reported = .wet) :
    (floatChange .low s).plant.pumps.reserve = true := by
  have hd : (floatChange .low s).env.level.low.reported = .dry := by
    rw [floatChange_env]
    show otherWet s.env.level.low.reported = .dry
    rw [h]
    rfl
  rw [floatChange_plant, settle, floatSigs, settleFrom_cond _ 2047]
  exact settleFrom_reserveJudge_of_dry hd 2046 none [] _

/-- Settles O19: the debounce of R12, and a float change with what it hands on. -/
theorem floatDebounce : Obligations.FloatDebounce := by
  refine ⟨fun w s h => exec_floatContactChange .low w s h, fun w s h => exec_floatContactChange .overFloat w s h,
    fun w s h => ⟨exec_floatContactChange_commission .low w s h, exec_floatContactChange_commission .overFloat w s h⟩,
    fun f s h => ?_, fun s h => ?_, fun f s h hl => ?_⟩
  · show execFloatDebounceExpiry f s = _
    unfold execFloatDebounceExpiry
    rw [if_neg (by simp [h])]
  · exact ⟨floatChange .low s, exec_floatDebounceExpiry .low s h, rfl, rfl, floatChange_env .low s, floatChange_lowWet s,
      floatChange_reserve s⟩
  · exact ⟨floatChange f s, exec_floatDebounceExpiry f s h, congrArg Env.level (floatChange_env f s),
      floatChange_levelDisagree f s hl⟩

end Sys2Proof.Machine
end

section
namespace Sys2Proof.Machine

/-! ### A faulted sample (R1, R6) -/

theorem goodRaw_iff (raw : Nat) : goodRaw raw = true ↔ 655 ≤ raw ∧ raw ≤ 4055 := by
  simp only [goodRaw, Bool.and_eq_true, decide_eq_true_eq]
  rfl

/-- A faulted sample moves the quality, the two runs, the rate and the mark of R10 a, and nothing else. -/
theorem Level.faulted_frame (lv : Level) : lv.faulted =
    { lv with quality := lv.faulted.quality, faultRun := lv.faulted.faultRun, goodRun := 0, goodSince := false
              rate := lv.faulted.rate } := by
  cases h : lv.quality <;> simp [Level.faulted, h]

theorem Level.faulted_of_good {lv : Level} (h : lv.quality = .good) :
    lv.faulted.quality = .held ∧ lv.faulted.faultRun = 1 ∧ lv.faulted.rate = none := by
  simp [Level.faulted, h]

theorem Level.faulted_of_held {lv : Level} (h : lv.quality = .held) :
    lv.faulted.faultRun = min 240 (lv.faultRun + 1) ∧ lv.faulted.rate = lv.rate ∧
      lv.faulted.quality = if lv.faulted.faultRun = 240 then .invalid else .held := by
  unfold Level.faulted
  rw [h]
  exact ⟨rfl, rfl, rfl⟩

theorem Level.faulted_of_invalid {lv : Level} (h : lv.quality = .invalid) :
    lv.faulted.faultRun = min 240 (lv.faultRun + 1) ∧ lv.faulted.quality = .invalid ∧ lv.faulted.rate = lv.rate := by
  simp [Level.faulted, h, Config.faultLimit]

theorem Level.faulted_quality_ne_good (lv : Level) : lv.faulted.quality ≠ .good := by
  cases h : lv.quality
  · rw [(Level.faulted_of_good h).1]; decide
  · rw [(Level.faulted_of_held h).2.2]; split <;> decide
  · rw [(Level.faulted_of_invalid h).2.1]; decide

/-! ### A good sample (R2, R4, R5, R7) -/

theorem median_eq_none_iff (w : List Nat) : median w = none ↔ w.length ≠ 5 := by
  unfold median
  by_cases h : w.length = 5 <;> simp [Config.windowSize, h]

theorem Level.seed_frame (lv : Level) : lv.seed = { lv with filtered := lv.seed.filtered } := by
  unfold Level.seed
  split <;> rfl

theorem Level.average_frame (lv : Level) : lv.average = { lv with filtered := lv.average.filtered } := by
  unfold Level.average
  split <;> rfl

theorem Level.seed_filtered {lv : Level} {m : Nat} (h : median lv.window = some m) : lv.seed.filtered = m := by
  simp [Level.seed, h]

theorem Level.average_filtered {lv : Level} {m : Nat} (h : median lv.window = some m) :
    lv.average.filtered = (7 * lv.filtered + m + 4) / 8 := by
  simp [Level.average, h]

/-- The level unit as a good sample has joined the window, the filter and the quality not moved yet (R4, R7 a). -/
def Level.joined (lv : Level) (v : Nat) : Level :=
  { lv with window := joinWindow lv.window v, faultRun := 0, goodRun := min 10 (lv.goodRun + 1) }

theorem Level.goodSample_of_good {lv : Level} (h : lv.quality = .good) (v : Nat) :
    lv.goodSample v = (lv.joined v).average := by
  simp [Level.goodSample, Level.joined, h, Config.goodLimit]

/-- Before the first publication a full window seeds the filter (R5 a, R7). -/
theorem Level.goodSample_at_start {lv : Level} (h : lv.quality = .held) (hp : lv.published = false) (v : Nat) :
    lv.goodSample v =
      if median (joinWindow lv.window v) = none then lv.joined v else { (lv.joined v).seed with quality := .good } := by
  simp [Level.goodSample, Level.joined, h, hp, Config.goodLimit, median_eq_none_iff, Config.windowSize]

/-- A recovery ends with the tenth good sample, which seeds the filter (R7). -/
theorem Level.goodSample_recovering {lv : Level} (h : lv.quality ≠ .good)
    (hp : lv.published = true ∨ lv.quality = .invalid) (v : Nat) :
    lv.goodSample v =
      if min 10 (lv.goodRun + 1) = 10 then { (lv.joined v).seed with quality := .good } else lv.joined v := by
  have hn : ¬ (lv.quality = .held && !lv.published) = true := by
    rcases hp with hp | hp <;> simp [hp]
  unfold Level.goodSample
  dsimp only
  rw [if_neg h, if_neg hn]
  rfl

/-- A good sample moves the window, the filter, the quality and the two runs, and nothing else. -/
theorem Level.goodSample_frame (lv : Level) (v : Nat) : lv.goodSample v =
    { lv.joined v with filtered := (lv.goodSample v).filtered, quality := (lv.goodSample v).quality } := by
  by_cases hq : lv.quality = .good
  · rw [Level.goodSample_of_good hq, Level.average_frame]
  · by_cases hp : lv.published = true ∨ lv.quality = .invalid
    · rw [Level.goodSample_recovering hq hp]
      split
      · rw [Level.seed_frame]
      · rfl
    · rw [not_or, Bool.not_eq_true] at hp
      have hh : lv.quality = .held := by
        cases h : lv.quality
        · exact absurd h hq
        · rfl
        · exact absurd h hp.2
      rw [Level.goodSample_at_start hh hp.1]
      split
      · rfl
      · rw [Level.seed_frame]

theorem Level.goodSample_quality (lv : Level) (v : Nat) :
    (lv.goodSample v).quality = .good ∨ (lv.goodSample v).quality = lv.quality := by
  unfold Level.goodSample
  dsimp only
  split
  · rename_i hq
    rw [Level.average_frame]
    exact .inl hq
  · split
    · split
      · exact .inl rfl
      · exact .inr rfl
    · split
      · exact .inl rfl
      · exact .inr rfl

/-! ### A sample and its publication (R9, R11) -/

theorem moved_of_good {raw : Nat} (h : 655 ≤ raw ∧ raw ≤ 4055) (c : Settings) (lv : Level) :
    lv.moved c raw = { lv.goodSample (convert c raw) with
      lastRaw := raw
      goodSince := (lv.moved c raw).goodSince } := by
  unfold Level.moved
  rw [if_pos ((goodRaw_iff raw).mpr h)]

theorem moved_of_faulted {raw : Nat} (h : ¬ (655 ≤ raw ∧ raw ≤ 4055)) (c : Settings) (lv : Level) :
    lv.moved c raw = { lv.faulted with lastRaw := raw, goodSince := (lv.moved c raw).goodSince } := by
  unfold Level.moved
  rw [if_neg (mt (goodRaw_iff raw).mp h)]

theorem moved_keeps (c : Settings) (lv : Level) (raw : Nat) :
    (lv.moved c raw).published = lv.published ∧ (lv.moved c raw).held = lv.held ∧ (lv.moved c raw).tOvf = lv.tOvf := by
  by_cases h : 655 ≤ raw ∧ raw ≤ 4055
  · rw [moved_of_good h, Level.goodSample_frame]
    exact ⟨rfl, rfl, rfl⟩
  · rw [moved_of_faulted h, Level.faulted_frame]
    exact ⟨rfl, rfl, rfl⟩

theorem publish_eq (c : Settings) (lv : Level) :
    lv.publish c = { lv with published := true, held := lv.shown, tOvf := tOvfOf c lv } := by
  by_cases h : lv.quality = .good <;> simp [Level.publish, tOvfOf, Level.shown, h]

/-- The level unit after a sample: as the sample moved it, and published where R9 says so. -/
theorem sample_eq_record (c : Settings) (lv : Level) (raw : Nat) :
    let m := lv.moved c raw
    lv.sample c raw = { m with
      published := lv.publishes m
      held := if lv.publishes m then m.shown else m.held
      tOvf := if lv.publishes m then tOvfOf c m else m.tOvf } := by
  dsimp only
  rw [Level.sample_eq]
  cases hp : lv.publishes (lv.moved c raw)
  · have hf : (lv.moved c raw).published = false := by
      rw [(moved_keeps c lv raw).1]
      exact (Bool.or_eq_false_iff.mp hp).1
    generalize lv.moved c raw = m at hf
    cases m
    simp_all
  · exact publish_eq c _

/-- The published level after a sample is the one that the sample brings. -/
theorem sample_shown (c : Settings) (lv : Level) (raw : Nat) :
    (lv.sample c raw).shown = (lv.moved c raw).shown := by
  rw [sample_eq_record]
  by_cases h : (lv.moved c raw).quality = .good
  · simp [Level.shown, h]
  · simp [Level.shown, h]

/-- At a publication the time to overflow is reckoned again (R11); at a sample without one it stands. -/
theorem sample_tOvf (c : Settings) (lv : Level) (raw : Nat) :
    (lv.publishes (lv.moved c raw) = true → (lv.sample c raw).tOvf = tOvfOf c (lv.sample c raw)) ∧
      (lv.publishes (lv.moved c raw) = false → (lv.sample c raw).tOvf = lv.tOvf) := by
  have hs : tOvfOf c (lv.sample c raw) = tOvfOf c (lv.moved c raw) := by
    unfold tOvfOf
    rw [sample_shown, sample_eq_record]
  refine ⟨fun h => ?_, fun h => ?_⟩
  · rw [hs, sample_eq_record]
    exact if_pos h
  · rw [sample_eq_record]
    simp only [h, Bool.false_eq_true, if_false]
    exact (moved_keeps c lv raw).2.2

/-! ### What a sample hands on (R8, R9, R14) -/

theorem takeSample_level (raw : BitVec 12) (s : State) : (takeSample raw s).env.level =
    { s.env.level.sample s.env.cfg.set (sampledRaw s.env raw) with transducer := transducerAfter s.env raw } := rfl

/-- A publication hands LEVEL_DISAGREE first, and then no condition of the level unit. -/
theorem publicationSigs_eq (e : Env) (b : Bool) :
    ∃ gs, publicationSigs e b = .cond .levelDisagree (levelDisagrees e.cfg.set e.level) :: gs ∧ Calm gs :=
  ⟨_, rfl, by simp [Sig.ofLevel]⟩

/-- The hand-overs of a publication, where there is one. -/
def publicationIf (pub : Bool) (e : Env) (b : Bool) : List Sig := if pub then publicationSigs e b else []

theorem takeSample_plant (raw : BitVec 12) (s : State) :
    let t := takeSample raw s
    let u := s.env.level
    t.plant = settle t.env 2048 (sensorSigs u.quality t.env.level.quality ++
      publicationIf (u.publishes t.env.level) t.env (u.quality != t.env.level.quality)) s.plant := by
  dsimp only [takeSample]
  rw [State.settle_plant]
  rfl

/-- What a publication, or none, leaves of the level unit's conditions. -/
theorem settleFrom_publicationIf (e : Env) (n : Nat) (x : Option BoostEnd) (pub b : Bool) (P : Plant) :
    let Q := settleFrom e (n + 1) x (publicationIf pub e b) P
    (Q.alarms.get .levelSensor).state = (P.alarms.get .levelSensor).state ∧
      (pub = true → P.alarms.table.length = 24 →
        ((Q.alarms.get .levelDisagree).state.present = true ↔ floatsDisagree e.cfg.set e.level)) ∧
      (pub = false → (Q.alarms.get .levelDisagree).state = (P.alarms.get .levelDisagree).state) := by
  dsimp only
  cases pub
  · rw [show publicationIf false e b = [] from rfl, settleFrom_nil]
    exact ⟨rfl, fun h => absurd h (by decide), fun _ => rfl⟩
  · obtain ⟨gs, hs, hg⟩ := publicationSigs_eq e b
    obtain ⟨hd, hl⟩ := settleFrom_levelDisagree e n x (levelDisagrees e.cfg.set e.level) hg P
    rw [show publicationIf true e b = publicationSigs e b from rfl, hs]
    exact ⟨hl, fun _ h => by rw [hd h, levelDisagrees_iff], fun h => absurd h (by decide)⟩

theorem sensorSigs_cases (a b : Quality) :
    (a ≠ .invalid ∧ b = .invalid ∧ sensorSigs a b = [.cond .levelSensor true]) ∨
      (a = .invalid ∧ b ≠ .invalid ∧ sensorSigs a b = [.cond .levelSensor false]) ∨
      ((a = .invalid ↔ b = .invalid) ∧ sensorSigs a b = []) := by
  cases a <;> cases b <;> simp [sensorSigs]

/-- What a sample leaves of the level unit's conditions (R8, R14). -/
theorem takeSample_conds (raw : BitVec 12) (s : State) (h : s.plant.alarms.table.length = 24) :
    let t := takeSample raw s
    let u := s.env.level
    let v := t.env.level
    let present := fun (x : State) (k : AlarmKind) => (x.plant.alarms.get k).state.present = true
    (present t .levelSensor ↔
        (v.quality = .invalid ∧ u.quality ≠ .invalid) ∨
          (present s .levelSensor ∧ ¬ (u.quality = .invalid ∧ v.quality ≠ .invalid))) ∧
      (u.publishes v = true → (present t .levelDisagree ↔ floatsDisagree s.env.cfg.set v)) ∧
      (u.publishes v = false → (present t .levelDisagree ↔ present s .levelDisagree)) := by
  dsimp only
  rw [takeSample_plant, settle]
  rw [show s.env.cfg = (takeSample raw s).env.cfg from rfl]
  generalize (takeSample raw s).env = e
  generalize hb : (s.env.level.quality != e.level.quality) = b
  rcases sensorSigs_cases s.env.level.quality e.level.quality with ⟨hu, hv, hs⟩ | ⟨hu, hv, hs⟩ | ⟨hq, hs⟩
  · obtain ⟨h1, h2, h3⟩ := settleFrom_publicationIf e 2046 none (s.env.level.publishes e.level) b
      (handleCond .levelSensor true e s.plant).1
    rw [hs, List.singleton_append, settleFrom_cond _ 2047]
    refine ⟨?_, fun hp => h2 hp ((handleCond_length _ _ _ _).trans h), fun hp => ?_⟩
    · rw [h1, handleCond_present _ _ _ _ h]
      simp [hu, hv]
    · rw [h3 hp, handleCond_state_ne _ _ _ (by decide)]
  · obtain ⟨h1, h2, h3⟩ := settleFrom_publicationIf e 2046 none (s.env.level.publishes e.level) b
      (handleCond .levelSensor false e s.plant).1
    rw [hs, List.singleton_append, settleFrom_cond _ 2047]
    refine ⟨?_, fun hp => h2 hp ((handleCond_length _ _ _ _).trans h), fun hp => ?_⟩
    · rw [h1, handleCond_present _ _ _ _ h]
      simp [hu, hv]
    · rw [h3 hp, handleCond_state_ne _ _ _ (by decide)]
  · obtain ⟨h1, h2, h3⟩ := settleFrom_publicationIf e 2047 none (s.env.level.publishes e.level) b s.plant
    rw [hs, List.nil_append]
    refine ⟨?_, fun hp => h2 hp h, fun hp => by rw [h3 hp]⟩
    have noAppearance : ¬ (e.level.quality = .invalid ∧ s.env.level.quality ≠ .invalid) := fun k => k.2 (hq.mpr k.1)
    have noGoing : ¬ (s.env.level.quality = .invalid ∧ e.level.quality ≠ .invalid) := fun k => k.2 (hq.mp k.1)
    simp only [h1, noAppearance, noGoing, not_false_eq_true, and_true, false_or]

end Sys2Proof.Machine
end

section
namespace Sys2Proof.Machine

/-! ### Publications (R9) -/

theorem publishes_iff (u v : Level) :
    u.publishes v = true ↔ u.published = true ∨ (v.quality ≠ u.quality ∧ v.quality ≠ .held) := by
  simp [Level.publishes]

theorem sample_publishes (c : Settings) (u : Level) (raw : Nat) :
    u.publishes (u.sample c raw) = u.publishes (u.moved c raw) := by
  rw [sample_eq_record]
  rfl

/-- All that a faulted sample changes (R1, R6, R9, R11). -/
theorem sample_of_faulted {raw : Nat} (h : ¬ (655 ≤ raw ∧ raw ≤ 4055)) (c : Settings) (u : Level) :
    let v := u.sample c raw
    v = { u with lastRaw := raw, quality := u.faulted.quality, faultRun := u.faulted.faultRun, goodRun := 0
                 goodSince := v.goodSince, rate := u.faulted.rate, published := u.publishes v, tOvf := v.tOvf } := by
  have hm := moved_of_faulted h c u
  rw [Level.faulted_frame] at hm
  have hh : (if u.publishes (u.moved c raw) then (u.moved c raw).shown else (u.moved c raw).held) = u.held := by
    rw [hm, Level.shown, if_neg (show ¬ u.faulted.quality = .good from u.faulted_quality_ne_good), ite_self]
  dsimp only
  rw [sample_publishes, sample_eq_record, hh]
  rw [hm]

/-- All that a good sample changes (R2, R4, R5, R7, R9, R11). -/
theorem sample_of_good {raw : Nat} (h : 655 ≤ raw ∧ raw ≤ 4055) (c : Settings) (u : Level) :
    let v := u.sample c raw
    let g := u.goodSample (convert c raw)
    v = { u with lastRaw := raw, window := joinWindow u.window (convert c raw), filtered := g.filtered, quality := g.quality
                 faultRun := 0, goodRun := min 10 (u.goodRun + 1), goodSince := v.goodSince, published := u.publishes v
                 held := if u.publishes v ∧ g.quality = .good then g.filtered else u.held, tOvf := v.tOvf } := by
  have hm := moved_of_good h c u
  rw [Level.goodSample_frame] at hm
  have hh : (if u.publishes (u.moved c raw) then (u.moved c raw).shown else (u.moved c raw).held) =
      if u.publishes (u.moved c raw) ∧ (u.goodSample (convert c raw)).quality = .good
      then (u.goodSample (convert c raw)).filtered else u.held := by
    generalize u.publishes (u.moved c raw) = p
    rw [hm]
    cases p
    · simp only [Bool.false_eq_true, false_and, ↓reduceIte]
      rfl
    · rw [if_pos rfl]
      exact ite_congr (propext (and_iff_right rfl).symm) (fun _ => rfl) fun _ => rfl
  dsimp only
  rw [sample_publishes, sample_eq_record, hh]
  rw [hm]
  rfl

end Sys2Proof.Machine
end

section
namespace Sys2Proof.Machine

/-! ### The faulted sample carried out -/

/-- The time to overflow after a sample that makes a publication (R11), in the words of the level it leaves. -/
theorem sample_tOvf_cases (c : Settings) (u : Level) (raw : Nat) (hp : u.publishes (u.sample c raw) = true) :
    let v := u.sample c raw
    (∀ r : Int, v.rate = some r → 0 < r →
        v.tOvf = if v.shown < c.lOver then min 999 ((c.lOver - v.shown) / r.toNat) else 0) ∧
      (v.rate = none ∨ (∃ r : Int, v.rate = some r ∧ r ≤ 0) → v.tOvf = 999) := by
  have ht := (sample_tOvf c u raw).1 (by rw [← sample_publishes, hp])
  exact ⟨fun r hr h => ht.trans (tOvfOf_rising c _ hr h), fun h => ht.trans (tOvfOf_not_rising c _ h)⟩

theorem sample_tOvf_of_unpublished (c : Settings) (u : Level) (raw : Nat) (hp : ¬ u.publishes (u.sample c raw) = true) :
    (u.sample c raw).tOvf = u.tOvf :=
  (sample_tOvf c u raw).2 (by rw [← sample_publishes]; simpa using hp)

/-- A faulted sample publishes once a level has been published, and where it brings INVALID (R9 a, b). -/
theorem publishes_of_not_good (u v : Level) (h : v.quality ≠ .good) :
    u.publishes v = true ↔ u.published = true ∨ (v.quality = .invalid ∧ u.quality ≠ .invalid) := by
  rw [publishes_iff]
  cases hv : v.quality
  · exact absurd hv h
  · simp
  · simp [@eq_comm _ Quality.invalid u.quality]

/-- A good sample publishes once a level has been published, and where it brings GOOD (R9 a, b). -/
theorem publishes_of_good_or_same (u v : Level) (h : v.quality = .good ∨ v.quality = u.quality) :
    u.publishes v = true ↔ u.published = true ∨ (v.quality = .good ∧ u.quality ≠ .good) := by
  rw [publishes_iff]
  rcases h with h | h
  · simp [h, @eq_comm _ Quality.good u.quality]
  · rw [h]
    simp

/-- LEVEL_SENSOR at a sample that does not leave INVALID: no going. -/
theorem appears_iff_of_imp {p a b : Prop} (h : a → b) : (b ∧ ¬ a) ∨ (p ∧ ¬ (a ∧ ¬ b)) ↔ p ∨ (b ∧ ¬ a) := by
  have noGoing : ¬ (a ∧ ¬ b) := fun k => k.2 (h k.1)
  rw [or_comm]
  simp only [noGoing, not_false_eq_true, and_true]

/-- LEVEL_SENSOR at a sample that does not enter INVALID: no appearance. -/
theorem stays_iff_of_imp {p a b : Prop} (h : b → a) : (b ∧ ¬ a) ∨ (p ∧ ¬ (a ∧ ¬ b)) ↔ p ∧ ¬ (a ∧ ¬ b) := by
  have noAppearance : ¬ (b ∧ ¬ a) := fun k => k.2 (h k.1)
  simp only [noAppearance, false_or]

/-- Settles O16: the sample's own effect from the record of what it changes, the alarms from the chain it hands on. -/
theorem faultedSample : Obligations.FaultedSample := by
  intro raw s code hcode
  have hbad : ¬ (655 ≤ code ∧ code ≤ 4055) := by omega
  have hv := sample_of_faulted hbad s.env.cfg.set s.env.level
  have hq : ((s.env.level.sample s.env.cfg.set code)).quality = s.env.level.faulted.quality := (congrArg Level.quality hv :)
  have hng : (s.env.level.sample s.env.cfg.set code).quality ≠ .good := by
    rw [hq]
    exact s.env.level.faulted_quality_ne_good
  have hpub := publishes_of_not_good s.env.level _ hng
  have hpublished : (s.env.level.sample s.env.cfg.set code).published =
      s.env.level.publishes (s.env.level.sample s.env.cfg.set code) := (congrArg Level.published hv :)
  refine ⟨takeSample raw s, rfl, rfl, rfl, rfl, (congrArg Level.lastRaw hv :), rfl, (congrArg Level.window hv :),
    (congrArg Level.filtered hv :), (congrArg Level.held hv :), (congrArg Level.goodRun hv :), (congrArg Level.snapshot hv :),
    (congrArg Level.low hv :), (congrArg Level.overFloat hv :), ?_, ?_, ?_, ?_, ?_, ?_, ?_, ?_, ?_⟩
  · exact (Bool.eq_iff_iff.mp hpublished).trans hpub
  · exact fun hp => sample_tOvf_of_unpublished _ _ code (mt hpub.mp hp)
  · exact fun hp => (sample_tOvf_cases _ _ code (hpub.mpr hp)).1
  · exact fun hp => (sample_tOvf_cases _ _ code (hpub.mpr hp)).2
  · intro hu
    obtain ⟨h1, h2, h3⟩ := Level.faulted_of_good hu
    exact ⟨hq.trans h1, (congrArg Level.faultRun hv :).trans h2, (congrArg Level.rate hv :).trans h3⟩
  · intro hu
    obtain ⟨h1, h2, h3⟩ := Level.faulted_of_held hu
    refine ⟨(congrArg Level.faultRun hv :).trans h1, (congrArg Level.rate hv :).trans h2, ?_⟩
    have hf : (s.env.level.sample s.env.cfg.set code).faultRun = s.env.level.faulted.faultRun :=
      (congrArg Level.faultRun hv :)
    exact (hq.trans h3).trans (by rw [← hf]; rfl)
  · intro hu
    obtain ⟨h1, h2, h3⟩ := Level.faulted_of_invalid hu
    exact ⟨(congrArg Level.faultRun hv :).trans h1, hq.trans h2, (congrArg Level.rate hv :).trans h3⟩
  · exact fun hi hu => hpublished.trans (hpub.mpr (.inr ⟨hi, hu⟩))
  · intro hl
    obtain ⟨hs, hd, hd'⟩ := takeSample_conds raw s hl
    have hkept : s.env.level.quality = .invalid → (takeSample raw s).env.level.quality = .invalid := fun hu =>
      hq.trans (Level.faulted_of_invalid hu).2.1
    exact ⟨hs.trans (appears_iff_of_imp hkept), fun hp hd1 => hng ((hd (hpub.mpr hp)).mp hd1).1,
      fun hp => hd' (Bool.not_eq_true _ ▸ mt hpub.mp hp)⟩

end Sys2Proof.Machine
end

section
namespace Sys2Proof.Machine

/-! ### The good sample carried out -/

theorem joinWindow_of_lt {w : List Nat} (h : w.length < 5) (v : Nat) : joinWindow w v = w ++ [v] := if_pos h

theorem joinWindow_of_full {w : List Nat} (h : w.length = 5) (v : Nat) : joinWindow w v = w.tail ++ [v] := by
  unfold joinWindow
  rw [if_neg (by simp [Config.windowSize, h]), h]
  simp [Config.windowSize]

/-- At GOOD the filter averages (R5 b). -/
theorem goodSample_averages {lv : Level} {v m : Nat} (hm : median (joinWindow lv.window v) = some m)
    (hq : lv.quality = .good) :
    (lv.goodSample v).quality = .good ∧ (lv.goodSample v).filtered = (7 * lv.filtered + m + 4) / 8 := by
  rw [Level.goodSample_of_good hq]
  refine ⟨?_, Level.average_filtered (lv := lv.joined v) hm⟩
  rw [Level.average_frame]
  exact hq

/-- At the start, and at the end of a recovery, the filter is seeded and the quality becomes GOOD (R5 a, R7). -/
theorem goodSample_seeds {lv : Level} {v m : Nat} (hm : median (joinWindow lv.window v) = some m)
    (h : (lv.quality = .held ∧ lv.published = false) ∨
      (lv.quality ≠ .good ∧ (lv.published = true ∨ lv.quality = .invalid) ∧ min 10 (lv.goodRun + 1) = 10)) :
    (lv.goodSample v).quality = .good ∧ (lv.goodSample v).filtered = m := by
  have hs : (lv.joined v).seed.filtered = m := Level.seed_filtered (lv := lv.joined v) hm
  rcases h with ⟨hq, hp⟩ | ⟨hq, hp, hr⟩
  · rw [Level.goodSample_at_start hq hp, if_neg (by simp [hm])]
    exact ⟨rfl, hs⟩
  · rw [Level.goodSample_recovering hq hp, if_pos hr]
    exact ⟨rfl, hs⟩

/-- Until then neither the quality nor the filter moves. -/
theorem goodSample_waits {lv : Level} {v : Nat}
    (h : (lv.quality = .held ∧ lv.published = false ∧ median (joinWindow lv.window v) = none) ∨
      (lv.quality ≠ .good ∧ (lv.published = true ∨ lv.quality = .invalid) ∧ min 10 (lv.goodRun + 1) < 10)) :
    (lv.goodSample v).quality = lv.quality ∧ (lv.goodSample v).filtered = lv.filtered := by
  rcases h with ⟨hq, hp, hm⟩ | ⟨hq, hp, hr⟩
  · rw [Level.goodSample_at_start hq hp, if_pos hm]
    exact ⟨rfl, rfl⟩
  · rw [Level.goodSample_recovering hq hp, if_neg (Nat.ne_of_lt hr)]
    exact ⟨rfl, rfl⟩

/-- Settles O17: the sample's own effect from the record of what it changes, the alarms from the chain it hands on. -/
theorem goodSample : Obligations.GoodSample := by
  intro raw s code hlo hhi
  have hv := sample_of_good ⟨hlo, hhi⟩ s.env.cfg.set s.env.level
  generalize hl : convert s.env.cfg.set code = l at hv
  have hq : (s.env.level.sample s.env.cfg.set code).quality = (s.env.level.goodSample l).quality :=
    (congrArg Level.quality hv :)
  have hf : (s.env.level.sample s.env.cfg.set code).filtered = (s.env.level.goodSample l).filtered :=
    (congrArg Level.filtered hv :)
  have hw : (s.env.level.sample s.env.cfg.set code).window = joinWindow s.env.level.window l :=
    (congrArg Level.window hv :)
  have hrun : (s.env.level.sample s.env.cfg.set code).goodRun = min 10 (s.env.level.goodRun + 1) :=
    (congrArg Level.goodRun hv :)
  have hheld : (s.env.level.sample s.env.cfg.set code).held =
      if s.env.level.publishes (s.env.level.sample s.env.cfg.set code) ∧ (s.env.level.goodSample l).quality = .good
      then (s.env.level.goodSample l).filtered else s.env.level.held := (congrArg Level.held hv :)
  have hpublished : (s.env.level.sample s.env.cfg.set code).published =
      s.env.level.publishes (s.env.level.sample s.env.cfg.set code) := (congrArg Level.published hv :)
  have hpub := publishes_of_good_or_same s.env.level (s.env.level.sample s.env.cfg.set code)
    (by rw [hq]; exact s.env.level.goodSample_quality l)
  refine ⟨takeSample raw s, rfl, rfl, rfl, rfl, (Bool.eq_iff_iff.mp hpublished).trans hpub,
    fun hp => sample_tOvf_of_unpublished _ _ code (mt hpub.mp hp),
    fun hp => (sample_tOvf_cases _ _ code (hpub.mpr hp)).1, fun hp => (sample_tOvf_cases _ _ code (hpub.mpr hp)).2,
    rfl, (congrArg Level.lastRaw hv :), (congrArg Level.faultRun hv :), hrun, (congrArg Level.rate hv :),
    fun h => hw.trans (hl ▸ joinWindow_of_lt h _), fun h => hw.trans (hl ▸ joinWindow_of_full h _), fun m hm => ?_,
    fun hu hp hm => ?_, fun hu hp hr => ?_, fun hg hp => ?_, fun hlen => ?_⟩
  · have hm : median (joinWindow s.env.level.window l) = some m := hw ▸ hm
    refine ⟨fun hu => ?_, fun hu hp => ?_, fun hu hp hr => ?_, fun hu hr => ?_⟩
    · obtain ⟨h1, h2⟩ := goodSample_averages hm hu
      exact ⟨hq.trans h1, hf.trans h2⟩
    · obtain ⟨h1, h2⟩ := goodSample_seeds hm (.inl ⟨hu, hp⟩)
      exact ⟨hq.trans h1, hf.trans h2⟩
    · obtain ⟨h1, h2⟩ := goodSample_seeds hm (.inr ⟨by simp [hu], .inl hp, hrun.symm.trans hr⟩)
      exact ⟨hq.trans h1, hf.trans h2⟩
    · obtain ⟨h1, h2⟩ := goodSample_seeds hm (.inr ⟨by simp [hu], .inr hu, hrun.symm.trans hr⟩)
      exact ⟨hq.trans h1, hf.trans h2⟩
  · obtain ⟨h1, h2⟩ := goodSample_waits (v := l) (.inl ⟨hu, hp, hw ▸ hm⟩)
    have hheld' : (s.env.level.sample s.env.cfg.set code).quality = .held := hq.trans (h1.trans hu)
    refine ⟨hheld', hf.trans h2, hpublished.trans (Bool.not_eq_true _ ▸ mt hpub.mp ?_)⟩
    simp [hp, hheld']
  · obtain ⟨h1, h2⟩ := goodSample_waits (v := l) (.inr ⟨hu, hp, hrun ▸ hr⟩)
    refine ⟨hq.trans h1, hf.trans h2, hheld.trans (if_neg ?_)⟩
    rw [h1]
    exact fun h => hu h.2
  · have hp' := hpub.mpr (hp.elim (fun h => .inr ⟨hg, h⟩) .inl)
    exact ⟨hpublished.trans hp', (hheld.trans (if_pos ⟨hp', hq ▸ hg⟩)).trans hf.symm⟩
  · obtain ⟨hs, hd, hd'⟩ := takeSample_conds raw s hlen
    have hleft : (takeSample raw s).env.level.quality = .invalid → s.env.level.quality = .invalid := fun hi => by
      rcases s.env.level.goodSample_quality l with h | h
      · exact absurd ((hq.symm.trans hi).symm.trans h) (by decide)
      · exact h.symm.trans (hq.symm.trans hi)
    exact ⟨hs.trans (stays_iff_of_imp hleft), fun hp => hd (hpub.mpr hp),
      fun hp => hd' (Bool.not_eq_true _ ▸ mt hpub.mp hp)⟩

end Sys2Proof.Machine
end

section
namespace Sys2Proof.Machine

/-! ### READ requests (R177, R181) -/

/-- A READ request with an empty body is answered OK with its content, and changes nothing but the link's reply. -/
theorem submit_read {kind tag : Byte} {content : State → List Byte} {s : State} {c : List Byte}
    (hc : s.clearToAnswer = true) (ht : tag ≠ 0) (hl : isLong kind = false) (h : content s = c) :
    submit kind tag [] (readRequest [] content) s =
      .next { s with link := repliedLink s (replyTo s kind tag .ok c .nothing) } := by
  rw [← h]
  exact submit_answered kind tag [] _ s hc ht hl

/-- A READ request with a body is refused with FORM (R181 f). -/
theorem submit_read_form {kind tag : Byte} {body : List Byte} (content : State → List Byte) (s : State)
    (hc : s.clearToAnswer = true) (ht : tag ≠ 0) (hl : isLong kind = false) (hb : body ≠ []) :
    submit kind tag body (readRequest body content) s =
      .next { s with link := repliedLink s (replyTo s kind tag .form [] .nothing) } := by
  cases body with
  | nil => exact absurd rfl hb
  | cons b bs => exact submit_answered kind tag (b :: bs) _ s hc ht hl

/-! ### The lists and the level as they are read (R17, R18, R25) -/

/-- READ LEVEL's content, field by field. -/
theorem levelContent_of_fields {s : State} {quality rate volume low overFloat : List Byte}
    (hq : u8 s.env.level.quality.code = quality) (hr : s16? s.env.level.rate = rate)
    (hv : u32? (s.env.cfg.volume s.env.level.shown) = volume) (hl : u8 (wetCode s.env.level.low.reported) = low)
    (ho : u8 (wetCode s.env.level.overFloat.reported) = overFloat) :
    levelContent s = u16 s.env.level.shown ++ quality ++ rate ++ u16 s.env.level.tOvf ++ volume ++ low ++ overFloat ++
      u16 s.env.level.lastRaw := by
  rw [← hq, ← hr, ← hv, ← hl, ← ho]
  rfl

/-- Settles O8: both lists answer as every READ request, with the lists of R17 and R25 as their content. -/
theorem readListsReply : Obligations.ReadListsReply := by
  intro tag s ht hc
  refine ⟨submit_read hc ht rfl ?_, submit_read hc ht rfl rfl, fun body hb =>
    ⟨submit_read_form geometryContent s hc ht rfl hb, submit_read_form windowsContent s hc ht rfl hb⟩⟩
  unfold geometryContent
  cases s.env.cfg.geometry <;> rfl

/-- Settles O9: READ LEVEL answers as every READ request, with the fields of R18 as its content. -/
theorem readLevelReply : Obligations.ReadLevelReply := by
  intro tag s ht hc
  refine ⟨submit_read hc ht rfl (levelContent_of_fields ?_ ?_ ?_ ?_ ?_), fun body hb =>
    submit_read_form levelContent s hc ht rfl hb⟩
  · cases s.env.level.quality <;> rfl
  · cases s.env.level.rate <;> rfl
  · unfold Working.volume
    cases s.env.cfg.geometry <;> rfl
  · cases s.env.level.low.reported <;> rfl
  · cases s.env.level.overFloat.reported <;> rfl

end Sys2Proof.Machine
end

section
namespace Sys2Proof.Machine

/-! ### A geometry table as WRITE GEOMETRY carries it (R16, R181 d) -/

/-- A breakpoint's six bytes. -/
def breakpointEntry (b : Breakpoint) : List Byte := u16 b.level ++ u32 b.volume

/-- The body that carries a table. -/
def geometryBody (bs : List Breakpoint) : List Byte := u8 bs.length ++ bs.flatMap breakpointEntry ++ [0]

@[simp] theorem length_breakpointEntry (b : Breakpoint) : (breakpointEntry b).length = 6 := rfl

theorem length_breakpointEntries (bs : List Breakpoint) : (bs.flatMap breakpointEntry).length = 6 * bs.length := by
  induction bs with
  | nil => rfl
  | cons b bs ih => simp [ih]; omega

theorem field_geometryBody (bs : List Breakpoint) (h : bs.length < 256) : field (geometryBody bs) 0 1 = bs.length := by
  unfold geometryBody
  rw [List.append_assoc, field_zero_of_append _ _ 1 rfl, number_u8]
  omega

theorem wellFormedList_geometryBody (bs : List Breakpoint) (h : bs.length < 256) :
    wellFormedList 6 (geometryBody bs) = true := by
  have hb : wellFormedBody (1 + 6 * bs.length + 1) (geometryBody bs) = true :=
    wellFormedBody_append_zero _ _ (by rw [List.length_append, length_breakpointEntries, length_u8])
  unfold wellFormedList
  rw [field_geometryBody bs h, hb]
  rfl

/-- The entries are read back as they were written. -/
theorem readBreakpoints_entries (bs : List Breakpoint) (rest : List Byte)
    (h : ∀ b ∈ bs, b.level < 65536 ∧ b.volume < 4294967296) :
    readBreakpoints bs.length (bs.flatMap breakpointEntry ++ rest) = bs := by
  induction bs with
  | nil => rfl
  | cons b bs ih =>
    obtain ⟨⟨hl, hv⟩, hbs⟩ := List.forall_mem_cons.mp h
    have hbytes : (b :: bs).flatMap breakpointEntry ++ rest =
        u16 b.level ++ (u32 b.volume ++ (bs.flatMap breakpointEntry ++ rest)) := by
      simp [breakpointEntry]
    rw [hbytes, List.length_cons, readBreakpoints, field_zero_of_append _ _ 2 rfl, field_of_append _ _ _ 2 4 rfl rfl,
      number_u16, number_u32, Nat.mod_eq_of_lt hl, Nat.mod_eq_of_lt hv]
    exact congrArg (b :: ·) (ih hbs)

/-- Two breakpoints in rising order. -/
def Breakpoint.Below (a b : Breakpoint) : Prop := a.level < b.level ∧ a.volume < b.volume

theorem Breakpoint.Below.trans {a b c : Breakpoint} (h : a.Below b) (k : b.Below c) : a.Below c :=
  ⟨Nat.lt_trans h.1 k.1, Nat.lt_trans h.2 k.2⟩

/-- Neighbours that rise make the whole table rise. -/
theorem risesStrictly_iff (bs : List Breakpoint) : risesStrictly bs = true ↔ bs.Pairwise Breakpoint.Below := by
  induction bs with
  | nil => simp [risesStrictly]
  | cons a bs ih =>
    cases bs with
    | nil => simp [risesStrictly]
    | cons b rest =>
      have hstep : risesStrictly (a :: b :: rest) = true ↔ a.Below b ∧ (b :: rest).Pairwise Breakpoint.Below := by
        rw [← ih]
        simp [risesStrictly, Breakpoint.Below]
      rw [hstep, List.pairwise_cons (a := a)]
      refine and_congr_left fun hp => ⟨fun hab x hx => ?_, fun h => h b List.mem_cons_self⟩
      rcases List.mem_cons.mp hx with rfl | hx
      · exact hab
      · exact hab.trans ((List.pairwise_cons.mp hp).1 x hx)

theorem lastLevel_iff (bs : List Breakpoint) (h : bs ≠ []) (n : Nat) :
    n ≤ lastLevel bs ↔ ∃ b, bs.getLast? = some b ∧ n ≤ b.level := by
  unfold lastLevel
  cases hb : bs.getLast? with
  | none => exact absurd (List.getLast?_eq_none_iff.mp hb) h
  | some b => simp

/-- R16 d: the tables that WRITE GEOMETRY accepts. -/
theorem geometryAccepted_iff (c : Settings) (bs : List Breakpoint) : geometryAccepted c bs = true ↔
    2 ≤ bs.length ∧ bs.length ≤ 16 ∧ (∃ b, bs.head? = some b ∧ b.level = 0) ∧
      (∀ b ∈ bs, b.level ≤ 20000 ∧ b.volume ≤ 4000000) ∧ bs.Pairwise Breakpoint.Below ∧
      ∃ b, bs.getLast? = some b ∧ c.lOver ≤ b.level := by
  by_cases hbs : bs = []
  · subst hbs
    simp [geometryAccepted, Config.geometryMin]
  · rw [← lastLevel_iff bs hbs, ← risesStrictly_iff]
    simp only [geometryAccepted, Bool.and_eq_true, decide_eq_true_eq, List.all_eq_true, Option.any_eq_true, beq_iff_eq,
      and_assoc]
    rfl

/-! ### WRITE GEOMETRY (R16) -/

/-- The answer to a body that carries a table: STATE outside SETUP, BUSY during a commit, then OK or RANGE. -/
theorem answerWriteGeometry_body (bs : List Breakpoint) (s : State) (hn : bs.length < 256)
    (h : ∀ b ∈ bs, b.level < 65536 ∧ b.volume < 4294967296) : answerWriteGeometry (geometryBody bs) s =
      if s.env.sys.mode ≠ .setup then (s, .bare .state)
      else if s.committing then (s, .bare .busy)
      else if geometryAccepted s.env.cfg.set bs then
        let t := s.setCfg { s.env.cfg with geometry := some bs }
        (if t.env.level.published then t.republish else t, .bare .ok)
      else (s, .bare .range) := by
  have hbs : readBreakpoints (field (geometryBody bs) 0 1) ((geometryBody bs).drop 1) = bs := by
    rw [field_geometryBody bs hn]
    exact readBreakpoints_entries bs [0] h
  unfold answerWriteGeometry
  rw [wellFormedList_geometryBody bs hn, hbs]
  rfl

/-- Settles O20: the body is read back as the table it carries, and the answer's checks are those of R16. -/
theorem writeGeometry : Obligations.WriteGeometry := by
  intro tag bs s ht hc hn hb
  have hanswer := answerWriteGeometry_body bs s (by omega) hb
  have hexec : exec (.writeGeometry tag (geometryBody bs)) s =
      .next ((answerWriteGeometry (geometryBody bs) s).1.reply 0x12 tag (answerWriteGeometry (geometryBody bs) s).2) :=
    submit_answered 0x12 tag _ _ s hc ht rfl
  have hfree : s.env.sys.commit = none → ¬ s.committing = true := fun h => by simp [State.committing, h]
  refine ⟨fun hm hno had => ?_, fun hm hno had => ?_, fun hm => ?_, fun hm hbusy => ?_⟩
  · rw [if_neg (Decidable.not_not.mpr hm), if_neg (hfree hno), if_pos ((geometryAccepted_iff _ _).mpr had)] at hanswer
    refine ⟨_, hexec, ?_⟩
    rw [hanswer]
    dsimp only
    split <;> exact ⟨rfl, rfl, rfl, rfl, rfl, rfl⟩
  · rw [if_neg (Decidable.not_not.mpr hm), if_neg (hfree hno), if_neg (mt (geometryAccepted_iff _ _).mp had)] at hanswer
    rw [hanswer] at hexec
    exact hexec
  · rw [if_pos hm] at hanswer
    rw [hanswer] at hexec
    exact hexec
  · rw [if_neg (Decidable.not_not.mpr hm), if_pos (show s.committing = true from hbusy)] at hanswer
    rw [hanswer] at hexec
    exact hexec

end Sys2Proof.Machine
end

section
namespace Sys2Proof.Machine

/-! ### Counters one second on -/

theorem second16_eq (n : Nat) : second16 n = min 65535 (n + 1) := satAdd_eq_min _ _ _

theorem second32_eq (n : Nat) : second32 n = min 4294967295 (n + 1) := satAdd_eq_min _ _ _

theorem minuteMore_eq (m n : Nat) :
    minuteMore maxU16 m n = if 60 ≤ n + 1 then (min 65535 (m + 1), 0) else (m, n + 1) := by
  unfold minuteMore
  rw [satAdd_eq_min]
  rfl

theorem Sys.tick_eq (y : Sys) : y.tick = { y with sim := { y.sim with
    total60 := if y.mode = .commission then y.sim.total60 + y.sim.inflowRate else y.sim.total60 } } := by
  unfold Sys.tick
  split <;> rfl

theorem Sys.tick_mode (y : Sys) : y.tick.mode = y.mode := by rw [Sys.tick_eq]

theorem Clock.tick_eq (k : Clock) : k.tick = { k with
    second := if k.isSet = true ∧ k.second < 59 then k.second + 1 else k.second
    lineDebounce := k.lineDebounce.map (· + 1), lineSecs := k.lineSecs + 1 } := by
  simp [Clock.tick, waitMore]

theorem Link.tick_eq (l : Link) : l.tick =
    { l with supervision := if l.silence = true then l.supervision else min 4294967295 (l.supervision + 1) } := by
  unfold Link.tick
  rw [second32_eq]

/-! #### One pump and one zone -/

theorem fitted_iff (c : Settings) (p : Pump) : fitted c p = true ↔ pumpNumber p ≤ c.pumpsFitted := decide_eq_true_iff

theorem opensContactor_iff (st : PumpState) :
    st.opensContactor = true ↔ st = .off ∨ st = .called ∨ st = .resting := by
  cases st <;> simp [PumpState.opensContactor]

theorem closed_iff (r : PumpRec) : r.closed = true ↔ r.state = .starting ∨ r.state = .running := by
  simp [PumpRec.closed]

theorem followsCommand_eq (r : PumpRec) :
    followsCommand r = if r.state = .starting ∨ r.state = .running then .present else .absent := by
  simp [followsCommand, closed_iff]

theorem tickPump_of_fitted {e : Env} {p : Pump} (h : pumpNumber p ≤ e.cfg.set.pumpsFitted) (P : Plant) (r : PumpRec) :
    tickPump e P p r = { r with
      timer := min 4294967295 (r.timer + 1), run := r.run.map fun z => ⟨z.start, min 4294967295 (z.secs + 1)⟩
      simSecs := min 3 (r.simSecs + 1)
      feedbackSecs := if (r.state = .off ∨ r.state = .called ∨ r.state = .resting) ∧ feedbackOf e P p = .present
        then min 65535 (r.feedbackSecs + 1) else 0 } := by
  unfold tickPump
  rw [if_pos ((fitted_iff _ _).mpr h)]
  simp [second16_eq, second32_eq, opensContactor_iff, Config.simFeedbackSeconds]

theorem tickPump_of_not_fitted {e : Env} {p : Pump} (h : ¬ pumpNumber p ≤ e.cfg.set.pumpsFitted) (P : Plant) (r : PumpRec) :
    tickPump e P p r = r := if_neg (mt (fitted_iff _ _).mp h)

theorem tickPumps_get (e : Env) (P : Plant) (p : Pump) :
    (tickPumps e P).recs.get p = tickPump e P p (P.pumps.recs.get p) := by cases p <;> rfl

theorem tickPumps_keeps (e : Env) (P : Plant) (p : Pump) :
    ((tickPumps e P).recs.get p).state = (P.pumps.recs.get p).state ∧
      ((tickPumps e P).recs.get p).simFeedback = (P.pumps.recs.get p).simFeedback := by
  rw [tickPumps_get]
  unfold tickPump
  split <;> exact ⟨rfl, rfl⟩

theorem tickFrost_get (e : Env) (P : Plant) (z : Zone) :
    (tickFrost e P).zones.get z = tickZone e P z (P.frost.zones.get z) := by cases z <;> rfl

theorem anyRunning_iff (P : Plant) : anyRunning P = true ↔ ∃ p, (P.pumps.recs.get p).state = .running := by
  simp [anyRunning]

theorem freezeCounts_iff (e : Env) (P : Plant) (z : Zone) : freezeCounts e P z = true ↔
    (e.cfg.set.zone.get z).enabled = true ∧ (P.frost.sensors.get z).faulted = false ∧
      (P.frost.sensors.get z).reading.any (· < (e.cfg.set.zone.get z).critical) = true ∧
      (P.frost.zones.get z).state ≠ .heat := by
  simp only [freezeCounts, Bool.and_eq_true, Bool.not_eq_true', bne_iff_ne, and_assoc]
  rfl

theorem FallbackPhase.tick_eq (f : FallbackPhase) : f.tick =
    ⟨f.on, (if 60 ≤ f.secs + 1 then (min 65535 (f.minutes + 1), 0) else (f.minutes, f.secs + 1)).1,
      (if 60 ≤ f.secs + 1 then (min 65535 (f.minutes + 1), 0) else (f.minutes, f.secs + 1)).2⟩ := by
  unfold FallbackPhase.tick
  rw [minuteMore_eq]

/-! ### What falls due with a second -/

theorem mem_due (i c : Instr) (b : Bool) : i ∈ due b c ↔ b = true ∧ i = c := by
  cases b <;> simp [due]

/-- When each command falls due with the second that passes on `s` (log 1). -/
def FallsDue (s : State) (i : Instr) : Prop :=
  let c := s.env.cfg.set
  let t := s.advanced
  let u := s.plant.pumps
  let x := t.plant.pumps
  match i with
  | .levelMinuteTimer => 60 ≤ t.env.level.minuteSecs
  | .floatDebounceExpiry f => ∃ n, (t.env.level.float f).debounce = some n ∧ 2 ≤ n
  | .clockMinute => s.env.clock.isSet = true ∧ 59 ≤ s.env.clock.second
  | .lineMinuteTick => 60 ≤ t.env.clock.lineSecs
  | .tariffDebounceExpiry => ∃ n, t.env.clock.lineDebounce = some n ∧ 5 ≤ n
  | .spacingTimerElapsed => u.spacing < c.startSpacing ∧ c.startSpacing ≤ x.spacing
  | .stagnationMinute => 60 ≤ x.stagnationSecs
  | .restEnd p => pumpNumber p ≤ c.pumpsFitted ∧ (u.recs.get p).state = .resting ∧ c.restTime ≤ (x.recs.get p).timer
  | .feedbackTimeExpiry p =>
    pumpNumber p ≤ c.pumpsFitted ∧ (u.recs.get p).state = .starting ∧ (x.recs.get p).timer = c.feedbackTime
  | .feedbackWithoutCommand p =>
    pumpNumber p ≤ c.pumpsFitted ∧
      ((u.recs.get p).state = .off ∨ (u.recs.get p).state = .called ∨ (u.recs.get p).state = .resting) ∧
      c.feedbackTime ≤ (x.recs.get p).feedbackSecs
  | .simulatedFeedbackChange p =>
    pumpNumber p ≤ c.pumpsFitted ∧ s.env.sys.mode = .commission ∧ (x.recs.get p).simSecs = 2 ∧
      (u.recs.get p).simFeedback ≠
        if (u.recs.get p).state = .starting ∨ (u.recs.get p).state = .running then .present else .absent
  | .fillMinuteTimer => s.plant.fill.windowOpen = true ∧ 60 ≤ t.plant.fill.minuteSecs
  | .lowWetTimerExpiry => s.plant.fill.lowWet < 10 ∧ 10 ≤ t.plant.fill.lowWet
  | .simulatedInflowPulse =>
    t.env.sys.mode = .commission ∧ t.env.sys.sim.inflowRate ≠ 0 ∧ t.env.sys.sim.total60 / (60 * c.litresPerPulse) ≠ 0
  | .releaseTimerExpiry => t.plant.guard.core.release.running = true ∧ 60 ≤ t.plant.guard.core.release.value
  | .runOnTimerExpiry => t.plant.guard.core.runOn.running = true ∧ 120 ≤ t.plant.guard.core.runOn.value
  | .autoClearTimerExpiry => t.plant.guard.core.autoClear.running = true ∧ 30 ≤ t.plant.guard.core.autoClear.value
  | .heaterTimerExpiry z =>
    ((s.plant.frost.zones.get z).state = .off ∧ (s.plant.frost.zones.get z).timer + 1 = 60) ∨
      ((s.plant.frost.zones.get z).state = .heat ∧ (s.plant.frost.zones.get z).timer + 1 = 120)
  | .fallbackPhaseChange z => ∃ f, (t.plant.frost.zones.get z).fallback = some f ∧ 10 ≤ f.minutes
  | .freezeTimerMinute z => 60 ≤ (t.plant.frost.zones.get z).freezeSecs
  | .circWaitTimerExpiry => s.plant.frost.circ.state = .demanded ∧ 600 ≤ s.plant.frost.circ.wait + 1
  | .circRunCompletion => s.plant.frost.circ.state = .run ∧ c.circRunTime * 60 ≤ s.plant.frost.circ.run + 1
  | .circRetryTimerExpiry => s.plant.frost.circ.state = .refused ∧ 600 ≤ s.plant.frost.circ.retry + 1
  | .clearTrendDone => s.plant.telem.clear ≠ none ∧ 2 ≤ t.plant.telem.clearSecs
  | .trendIntervalTimer => c.trendInterval ≤ t.plant.telem.interval
  | .reportTimerExpiry => s.plant.telem.batch ≠ [] ∧ c.reportPeriod ≤ t.plant.telem.report
  | .silenceStart => s.link.silence = false ∧ c.supervision ≠ 0 ∧ c.supervision ≤ t.link.supervision
  | _ => False

theorem mem_spacingDues (i : Instr) (c : Settings) (old u : Pumps) : i ∈ spacingDues c old u ↔
    (old.spacing < c.startSpacing ∧ c.startSpacing ≤ u.spacing) ∧ i = .spacingTimerElapsed := by
  simp [spacingDues, mem_due]

theorem waited_iff (d : Option Nat) (n : Nat) : waited d n = true ↔ ∃ k, d = some k ∧ n ≤ k := by
  simp [waited, Option.any_eq_true]

theorem mem_levelDues (i : Instr) (lv : Level) : i ∈ lv.dues ↔
    (60 ≤ lv.minuteSecs ∧ i = .levelMinuteTimer) ∨
      ∃ f, (∃ n, (lv.float f).debounce = some n ∧ 2 ≤ n) ∧ i = .floatDebounceExpiry f := by
  have hf : (∃ f, (∃ n, (lv.float f).debounce = some n ∧ 2 ≤ n) ∧ i = .floatDebounceExpiry f) ↔
      ((∃ n, lv.low.debounce = some n ∧ 2 ≤ n) ∧ i = .floatDebounceExpiry .low) ∨
        ((∃ n, lv.overFloat.debounce = some n ∧ 2 ≤ n) ∧ i = .floatDebounceExpiry .overFloat) := by
    constructor
    · rintro ⟨f, h⟩
      cases f
      · exact .inl h
      · exact .inr h
    · rintro (h | h)
      · exact ⟨.low, h⟩
      · exact ⟨.overFloat, h⟩
  rw [hf]
  simp [Level.dues, mem_due, waited_iff, Config.floatDebounce]

theorem mem_clockDues (i : Instr) (old c : Clock) : i ∈ Clock.dues old c ↔
    ((old.isSet = true ∧ 59 ≤ old.second) ∧ i = .clockMinute) ∨ (60 ≤ c.lineSecs ∧ i = .lineMinuteTick) ∨
      ((∃ n, c.lineDebounce = some n ∧ 5 ≤ n) ∧ i = .tariffDebounceExpiry) := by
  simp [Clock.dues, mem_due, waited_iff, Config.tariffDebounce]

theorem mem_pumpDues (i : Instr) (e : Env) (p : Pump) (r : PumpRec) : i ∈ pumpDues e p r ↔
    ((pumpNumber p ≤ e.cfg.set.pumpsFitted ∧ e.sys.mode = .commission ∧ r.simSecs = 2 ∧
        r.simFeedback ≠ if r.state = .starting ∨ r.state = .running then .present else .absent) ∧
      i = .simulatedFeedbackChange p) ∨
    ((pumpNumber p ≤ e.cfg.set.pumpsFitted ∧ r.state = .starting ∧ r.timer = e.cfg.set.feedbackTime) ∧
      i = .feedbackTimeExpiry p) ∨
    ((pumpNumber p ≤ e.cfg.set.pumpsFitted ∧ (r.state = .off ∨ r.state = .called ∨ r.state = .resting) ∧
        e.cfg.set.feedbackTime ≤ r.feedbackSecs) ∧ i = .feedbackWithoutCommand p) ∨
    ((pumpNumber p ≤ e.cfg.set.pumpsFitted ∧ r.state = .resting ∧ e.cfg.set.restTime ≤ r.timer) ∧ i = .restEnd p) := by
  unfold pumpDues
  dsimp only
  rw [← fitted_iff, ← followsCommand_eq, ← opensContactor_iff]
  by_cases h : fitted e.cfg.set p = true
  · rw [if_pos h]
    simp only [h, true_and, List.mem_append, mem_due, Bool.and_eq_true, beq_iff_eq, bne_iff_ne, decide_eq_true_eq,
      and_assoc, or_assoc]
    rfl
  · rw [if_neg h]
    simp [h]

theorem mem_pumpsDues (i : Instr) (e : Env) (u : Pumps) : i ∈ pumpsDues e u ↔
    (∃ p, i ∈ pumpDues e p (u.recs.get p)) ∨ (60 ≤ u.stagnationSecs ∧ i = .stagnationMinute) := by
  simp [pumpsDues, mem_due]

theorem mem_fillDues (i : Instr) (old f : Fill) : i ∈ fillDues old f ↔
    ((f.windowOpen = true ∧ 60 ≤ f.minuteSecs) ∧ i = .fillMinuteTimer) ∨
      ((old.lowWet < 10 ∧ 10 ≤ f.lowWet) ∧ i = .lowWetTimerExpiry) := by
  simp only [fillDues, List.mem_append, mem_due, Bool.and_eq_true, decide_eq_true_eq]
  rfl

theorem mem_inflowDues (i : Instr) (c : Settings) (y : Sys) : i ∈ inflowDues c y ↔
    (y.mode = .commission ∧ y.sim.inflowRate ≠ 0 ∧ y.sim.total60 / (60 * c.litresPerPulse) ≠ 0) ∧
      i = .simulatedInflowPulse := by
  unfold inflowDues
  split
  · rename_i h
    simp only [Bool.and_eq_true, decide_eq_true_eq, bne_iff_ne] at h
    simp only [List.mem_replicate, h.1, h.2, ne_eq, not_false_eq_true, true_and]
  · rename_i h
    simp only [Bool.and_eq_true, decide_eq_true_eq, bne_iff_ne] at h
    simp only [List.not_mem_nil, false_iff]
    exact fun k => h ⟨k.1.1, k.1.2.1⟩

theorem mem_guardDues (i : Instr) (k : GuardCore) : i ∈ guardDues k ↔
    ((k.release.running = true ∧ 60 ≤ k.release.value) ∧ i = .releaseTimerExpiry) ∨
      ((k.runOn.running = true ∧ 120 ≤ k.runOn.value) ∧ i = .runOnTimerExpiry) ∨
      ((k.autoClear.running = true ∧ 30 ≤ k.autoClear.value) ∧ i = .autoClearTimerExpiry) := by
  simp only [guardDues, Timer.ended, List.mem_append, mem_due, Bool.and_eq_true, decide_eq_true_eq, or_assoc]
  rfl

theorem mem_heaterDues (i : Instr) (z : Zone) (e : Env) (P : Plant) (r : ZoneRec) :
    i ∈ heaterDues z r (tickZone e P z r) ↔
      ((r.state = .off ∧ r.timer + 1 = 60) ∨ (r.state = .heat ∧ r.timer + 1 = 120)) ∧ i = .heaterTimerExpiry z := by
  simp only [heaterDues, tickZone, second16_eq, mem_due, Bool.and_eq_true, Bool.or_eq_true, beq_iff_eq, decide_eq_true_eq]
  refine and_congr_left fun _ => ?_
  show r.timer < min 65535 (r.timer + 1) ∧
    ((r.state = .off ∧ min 65535 (r.timer + 1) = 60) ∨ (r.state = .heat ∧ min 65535 (r.timer + 1) = 120)) ↔ _
  constructor
  · rintro ⟨-, ⟨hs, ht⟩ | ⟨hs, ht⟩⟩
    · exact .inl ⟨hs, by omega⟩
    · exact .inr ⟨hs, by omega⟩
  · rintro (⟨hs, ht⟩ | ⟨hs, ht⟩)
    · exact ⟨by omega, .inl ⟨hs, by omega⟩⟩
    · exact ⟨by omega, .inr ⟨hs, by omega⟩⟩

theorem mem_zoneDues (i : Instr) (z : Zone) (r : ZoneRec) : i ∈ zoneDues z r ↔
    ((∃ f, r.fallback = some f ∧ 10 ≤ f.minutes) ∧ i = .fallbackPhaseChange z) ∨
      (60 ≤ r.freezeSecs ∧ i = .freezeTimerMinute z) := by
  simp only [zoneDues, List.mem_append, mem_due, Option.any_eq_true, decide_eq_true_eq]
  rfl

theorem mem_circDues (i : Instr) (e : Env) (k : Circ) : i ∈ circDues e k.tick ↔
    ((k.state = .demanded ∧ 600 ≤ k.wait + 1) ∧ i = .circWaitTimerExpiry) ∨
      ((k.state = .run ∧ e.cfg.set.circRunTime * 60 ≤ k.run + 1) ∧ i = .circRunCompletion) ∨
      ((k.state = .refused ∧ 600 ≤ k.retry + 1) ∧ i = .circRetryTimerExpiry) := by
  cases h : k.state <;> simp [Circ.tick, circDues, h, mem_due, Config.circWaitSeconds]

theorem mem_telemDues (i : Instr) (c : Settings) (tm : Telem) : i ∈ telemDues c tm ↔
    ((tm.clear ≠ none ∧ 2 ≤ tm.clearSecs) ∧ i = .clearTrendDone) ∨
      (c.trendInterval ≤ tm.interval ∧ i = .trendIntervalTimer) ∨
      ((tm.batch ≠ [] ∧ c.reportPeriod ≤ tm.report) ∧ i = .reportTimerExpiry) := by
  simp only [telemDues, List.mem_append, mem_due, Bool.and_eq_true, Option.isSome_iff_ne_none, Bool.not_eq_true',
    List.isEmpty_eq_false_iff, decide_eq_true_eq, or_assoc]
  rfl

theorem mem_linkDues (i : Instr) (c : Settings) (l : Link) : i ∈ linkDues c l ↔
    (l.silence = false ∧ c.supervision ≠ 0 ∧ c.supervision ≤ l.supervision) ∧ i = .silenceStart := by
  simp [linkDues, mem_due, and_assoc, and_left_comm]

/-- The blocks in which the second is reckoned. -/
theorem mem_pending_tick (i : Instr) (s : State) : i ∈ (tick s).pending ↔
    i ∈ spacingDues s.env.cfg.set s.plant.pumps (tickPumps s.env s.plant) ∨
    (∃ z, i ∈ heaterDues z (s.plant.frost.zones.get z) (tickZone s.env s.plant z (s.plant.frost.zones.get z))) ∨
    i ∈ s.env.level.tick.dues ∨ i ∈ Clock.dues s.env.clock s.env.clock.tick ∨
    i ∈ pumpsDues s.env.tick (tickPumps s.env s.plant) ∨ i ∈ fillDues s.plant.fill (tickFill s.env s.plant.fill) ∨
    i ∈ inflowDues s.env.cfg.set s.env.sys.tick ∨ i ∈ guardDues (tickGuard s.plant.guard).core ∨
    ((∃ z, i ∈ zoneDues z ((tickFrost s.env s.plant).zones.get z)) ∨ i ∈ circDues s.env.tick s.plant.frost.circ.tick) ∨
    i ∈ telemDues s.env.cfg.set s.plant.telem.tick ∨ i ∈ linkDues s.env.cfg.set s.link.tick := by
  have hz : (∃ z, i ∈ heaterDues z (s.plant.frost.zones.get z) (tickZone s.env s.plant z (s.plant.frost.zones.get z))) ↔
      i ∈ allZones.flatMap (fun z => heaterDues z (s.plant.frost.zones.get z) ((tickFrost s.env s.plant).zones.get z)) := by
    simp [tickFrost_get]
  have hf : ((∃ z, i ∈ zoneDues z ((tickFrost s.env s.plant).zones.get z)) ∨
      i ∈ circDues s.env.tick s.plant.frost.circ.tick) ↔ i ∈ frostDues s.env.tick (tickFrost s.env s.plant) := by
    simp [frostDues]
    rfl
  rw [hz, hf]
  simp only [tick, duesOf, List.mem_append, or_assoc]
  rfl

/-- The queue after a second holds exactly what falls due with it. -/
theorem mem_tick (i : Instr) (s : State) : i ∈ (tick s).pending ↔ FallsDue s i := by
  simp only [mem_pending_tick, mem_spacingDues, mem_heaterDues, mem_levelDues, mem_clockDues, mem_pumpsDues, mem_pumpDues,
    mem_fillDues, mem_inflowDues, mem_guardDues, mem_zoneDues, mem_circDues, mem_telemDues, mem_linkDues, tickPumps_keeps]
  cases i
  case simulatedFeedbackChange p =>
    simp only [reduceCtorEq, and_false, or_false, false_or, exists_false, Instr.simulatedFeedbackChange.injEq,
      exists_eq_right']
    rw [show s.env.tick.sys.mode = s.env.sys.mode from Sys.tick_mode _]
    rfl
  all_goals
    simp only [reduceCtorEq, and_false, and_true, or_false, false_or, exists_false, exists_eq_right',
      Instr.floatDebounceExpiry.injEq, Instr.restEnd.injEq, Instr.feedbackTimeExpiry.injEq,
      Instr.feedbackWithoutCommand.injEq, Instr.heaterTimerExpiry.injEq, Instr.fallbackPhaseChange.injEq,
      Instr.freezeTimerMinute.injEq]
    rfl

/-- Of what falls due, only the simulated inflow's block holds pulses. -/
theorem count_pulse_tick (s : State) : (tick s).pending.count .simulatedInflowPulse =
    (inflowDues s.env.cfg.set s.env.sys.tick).count .simulatedInflowPulse := by
  have other {l : List Instr} (h : .simulatedInflowPulse ∉ l) : l.count .simulatedInflowPulse = 0 :=
    List.count_eq_zero.mpr h
  have spacing (c u v) : (spacingDues c u v).count .simulatedInflowPulse = 0 := other (by simp [mem_spacingDues])
  have heaters : (allZones.flatMap fun z =>
      heaterDues z (s.plant.frost.zones.get z) ((tickFrost s.env s.plant).zones.get z)).count .simulatedInflowPulse = 0 :=
    other (by simp [tickFrost_get, mem_heaterDues])
  have level (v : Level) : v.dues.count .simulatedInflowPulse = 0 := other (by simp [mem_levelDues])
  have clock (k l) : (Clock.dues k l).count .simulatedInflowPulse = 0 := other (by simp [mem_clockDues])
  have pumps (e u) : (pumpsDues e u).count .simulatedInflowPulse = 0 := other (by simp [mem_pumpsDues, mem_pumpDues])
  have fill (f g) : (fillDues f g).count .simulatedInflowPulse = 0 := other (by simp [mem_fillDues])
  have guard (k) : (guardDues k).count .simulatedInflowPulse = 0 := other (by simp [mem_guardDues])
  have frost : (frostDues s.env.tick (tickFrost s.env s.plant)).count .simulatedInflowPulse = 0 :=
    other (by simp [frostDues, mem_zoneDues, tickFrost, mem_circDues])
  have telem (c tm) : (telemDues c tm).count .simulatedInflowPulse = 0 := other (by simp [mem_telemDues])
  have link (c l) : (linkDues c l).count .simulatedInflowPulse = 0 := other (by simp [mem_linkDues])
  calc (tick s).pending.count .simulatedInflowPulse
      = (spacingDues s.env.cfg.set s.plant.pumps (tickPumps s.env s.plant) ++
          allZones.flatMap
            (fun z => heaterDues z (s.plant.frost.zones.get z) ((tickFrost s.env s.plant).zones.get z)) ++
          s.env.level.tick.dues ++ Clock.dues s.env.clock s.env.clock.tick ++
          pumpsDues s.env.tick (tickPumps s.env s.plant) ++ fillDues s.plant.fill (tickFill s.env s.plant.fill) ++
          inflowDues s.env.cfg.set s.env.sys.tick ++ guardDues (tickGuard s.plant.guard).core ++
          frostDues s.env.tick (tickFrost s.env s.plant) ++ telemDues s.env.cfg.set s.plant.telem.tick ++
          linkDues s.env.cfg.set s.link.tick).count .simulatedInflowPulse := rfl
    _ = _ := by
      simp only [List.count_append, spacing, heaters, level, clock, pumps, fill, guard, frost, telem, link,
        Nat.zero_add, Nat.add_zero]

theorem count_inflowDues (c : Settings) (y : Sys) : (inflowDues c y).count .simulatedInflowPulse =
    if y.mode = .commission ∧ y.sim.inflowRate ≠ 0 then y.sim.total60 / (60 * c.litresPerPulse) else 0 := by
  simp only [inflowDues, Bool.and_eq_true, decide_eq_true_eq, bne_iff_ne]
  split
  · exact List.count_replicate_self
  · rfl

/-! ### The blocks one second on -/

theorem tickPumps_eq (e : Env) (P : Plant) : tickPumps e P = { P.pumps with
    recs := (tickPumps e P).recs, spacing := min 65535 (P.pumps.spacing + 1)
    stagnationSecs := (tickPumps e P).stagnationSecs } := by
  rw [← second16_eq]
  rfl

theorem tickPumps_stagnationSecs (e : Env) (P : Plant) : (tickPumps e P).stagnationSecs =
    if anyRunning P = true then 0 else P.pumps.stagnationSecs + 1 := rfl

theorem tickFill_eq (e : Env) (f : Fill) :
    let low := if e.level.low.reported = .wet then
        if 60 ≤ f.lowWetSecs + 1 then (min 65535 (f.lowWet + 1), 0) else (f.lowWet, f.lowWetSecs + 1)
      else (f.lowWet, f.lowWetSecs)
    tickFill e f = { f with
      minuteSecs := if f.windowOpen = true then f.minuteSecs + 1 else f.minuteSecs, lowWet := low.1, lowWetSecs := low.2 } := by
  simp only [tickFill, minuteMore_eq]

theorem tickGuard_eq (g : Guard) :
    let minute := fun m n : Nat => if 60 ≤ n + 1 then (min 65535 (m + 1), 0) else (m, n + 1)
    let counts := fun x : Timer => if x.running = true then (⟨true, x.value + 1⟩ : Timer) else x
    let auto := if g.core.autoClear.running = true then minute g.core.autoClear.value g.core.autoClearSecs
      else (g.core.autoClear.value, g.core.autoClearSecs)
    tickGuard g = { g with
      core := { g.core with release := counts g.core.release, runOn := counts g.core.runOn
                            autoClear := ⟨g.core.autoClear.running, auto.1⟩, autoClearSecs := auto.2 }
      age := (minute g.age g.ageSecs).1, ageSecs := (minute g.age g.ageSecs).2 } := by
  have tick (x : Timer) : x.tick = if x.running = true then (⟨true, x.value + 1⟩ : Timer) else x := by
    obtain ⟨running, value⟩ := x
    cases running <;> rfl
  simp only [tickGuard, minuteMore_eq, tick]

theorem tickZone_eq (e : Env) (P : Plant) (z : Zone) (r : ZoneRec) :
    tickZone e P z r = { r with
      timer := min 65535 (r.timer + 1)
      onSecs := if (P.load.zones.get z).isGranted = true then min 4294967295 (r.onSecs + 1) else r.onSecs
      freezeSecs := if freezeCounts e P z = true then r.freezeSecs + 1 else r.freezeSecs
      fallback := r.fallback.map fun x =>
        ⟨x.on, (if 60 ≤ x.secs + 1 then (min 65535 (x.minutes + 1), 0) else (x.minutes, x.secs + 1)).1,
          (if 60 ≤ x.secs + 1 then (min 65535 (x.minutes + 1), 0) else (x.minutes, x.secs + 1)).2⟩ } := by
  simp only [tickZone, second16_eq, second32_eq, funext FallbackPhase.tick_eq]
  rfl

theorem Telem.tick_eq (tm : Telem) : tm.tick = { tm with
    interval := tm.interval + 1, report := if tm.batch = [] then tm.report else tm.report + 1
    clearSecs := if tm.clear = none then tm.clearSecs else tm.clearSecs + 1 } := by
  cases h : tm.clear <;> simp [Telem.tick, h]

theorem Env.tick_eq (e : Env) : e.tick = { e with level := e.level.tick, clock := e.clock.tick, sys := e.sys.tick } := rfl

theorem step_of_idle {s : State} (h : s.pending = []) : step s = .next (tick s) := by
  unfold step
  rw [h]

/-- Settles O2: what each block's second does, and `mem_tick` for what falls due with it. -/
theorem idleSecondPasses : Obligations.IdleSecondPasses := by
  unfold Obligations.IdleSecondPasses
  intro s idle
  refine ⟨tick s, step_of_idle idle, ⟨?env, rfl, Link.tick_eq _⟩,
    ⟨tickPumps_eq _ _, ?running, ?stagnant, mem_tick _ s, mem_tick _ s, ?pump⟩,
    ⟨tickFill_eq _ _, tickGuard_eq _, mem_tick _ s, mem_tick _ s, mem_tick _ s, mem_tick _ s, mem_tick _ s, ?zone⟩,
    ⟨rfl, Telem.tick_eq _, mem_tick _ s, mem_tick _ s, mem_tick _ s, mem_tick _ s, mem_tick _ s, mem_tick _ s, mem_tick _ s⟩,
    ⟨mem_tick _ s, fun f => mem_tick _ s, mem_tick _ s, mem_tick _ s, mem_tick _ s, ?pulses⟩, ?only⟩
  case env =>
    show s.env.tick = _
    rw [Env.tick_eq, Clock.tick_eq, Sys.tick_eq]
    rfl
  case running => exact fun h => if_pos ((anyRunning_iff _).mpr h)
  case stagnant => exact fun h => if_neg (mt (anyRunning_iff _).mp (not_exists.mpr h))
  case pump =>
    intro p
    have record : (tick s).plant.pumps.recs.get p = tickPump s.env s.plant p (s.plant.pumps.recs.get p) :=
      tickPumps_get _ _ _
    exact ⟨fun h => record.trans (tickPump_of_not_fitted h _ _), fun h => record.trans (tickPump_of_fitted h _ _),
      mem_tick _ s, mem_tick _ s, mem_tick _ s, mem_tick _ s⟩
  case zone =>
    intro z
    refine ⟨?_, mem_tick _ s, mem_tick _ s, mem_tick _ s⟩
    have record : (tick s).plant.frost.zones.get z = tickZone s.env s.plant z (s.plant.frost.zones.get z) :=
      tickFrost_get _ _ _
    rw [record, tickZone_eq, ite_congr (propext (freezeCounts_iff _ _ _)) (fun _ => rfl) fun _ => rfl]
  case pulses => exact (count_pulse_tick s).trans (count_inflowDues _ _)
  case only =>
    intro i hi
    have h : FallsDue s i := (mem_tick i s).mp hi
    cases i <;> first | exact True.intro | exact h

end Sys2Proof.Machine
end

section
namespace Sys2Proof.Machine

/-! ### What every answer and every restart keep, whatever brings the request -/

/-- A block's answer leaves the environment as it was, or is one of the eight that may change it. -/
theorem answerByKind_cases {kind tag : Byte} {body : List Byte} {answer : State → State × Answer}
    (ha : answerByKind kind tag body = some answer) :
    EnvKept answer ∨ answer = answerSetMode body ∨ answer = answerWriteSetting body ∨ answer = answerWriteGeometry body ∨
      answer = answerWriteTariffWindows body ∨ answer = answerCommitSettings tag body ∨ answer = answerSetClock body ∨
      answer = answerSimulateInputs body ∨ answer = answerSetCounter body := by
  unfold answerByKind at ha
  split at ha <;> cases ha
  case h_3 | h_7 | h_9 | h_11 | h_13 | h_14 | h_17 | h_38 => simp only [true_or, or_true]
  all_goals refine .inl ?_
  case h_4 => exact envKept_restart body
  case h_5 => exact envKept_pause true body
  case h_6 => exact envKept_pause false body
  case h_8 => exact envKept_readSetting body
  case h_19 => exact envKept_boost body
  case h_20 => exact envKept_cancelBoost body
  case h_22 => exact envKept_lockPump body
  case h_23 => exact envKept_unlockPump body
  case h_24 => exact envKept_moveValve tag body
  case h_25 => exact envKept_homeValve tag body
  case h_26 => exact envKept_stopValve body
  case h_29 => exact envKept_clearTrip body
  case h_33 => exact envKept_ackAlarm body
  case h_34 => exact envKept_readAlarms body
  case h_35 => exact envKept_readTrend body
  case h_36 => exact envKept_clearTrend tag body
  case h_39 => exact envKept_resetCounter body
  all_goals exact envKept_readRequest body _

/-- A property of the environment that every block's answer and every restart keep. -/
structure RequestsKeep (p : Env → Prop) : Prop where
  answers : ∀ {kind tag : Byte} {body : List Byte} {answer : State → State × Answer},
    answerByKind kind tag body = some answer → ∀ s : State, p s.env → p (answer s).1.env
  restarts : ∀ (c : Cause) (e : Env), p e → p (restartEnv c e)

section
variable {p : Env → Prop} {s t : State}

theorem RequestsKeep.carryOut (k : RequestsKeep p) (h : p s.env) {kind tag : Byte} {body : List Byte}
    {answer : State → State × Answer} (ha : answerByKind kind tag body = some answer) :
    p (carryOut kind tag answer s).env := by
  rcases carryOut_cases kind tag answer s with ⟨-, he⟩ | ⟨-, -, -, he⟩ | ⟨-, -, he⟩ <;> rw [he]
  · exact h
  · exact h
  · exact k.answers ha s h

theorem RequestsKeep.carryOutRequest (k : RequestsKeep p) (h : p s.env) (r : Request) : p (carryOutRequest r s).env := by
  unfold Machine.carryOutRequest
  split
  · rename_i answer ha
    exact k.carryOut h ha
  · exact h

theorem enqueue_keeps (h : p s.env) (r : Request) : p (s.enqueue r).env := (enqueue_env s r).symm ▸ h

theorem RequestsKeep.submit (k : RequestsKeep p) (h : p s.env) {kind tag : Byte} {body : List Byte}
    {answer : State → State × Answer} (ha : answerByKind kind tag body = some answer)
    (ht : submit kind tag body answer s = .next t) : p t.env := by
  cases ht
  split
  · exact k.carryOut h ha
  · exact enqueue_keeps h _

theorem RequestsKeep.unknownKind (k : RequestsKeep p) (h : p s.env) {kind tag : Byte} {body : List Byte}
    (ht : execUnknownKind kind tag body s = .next t) : p t.env := by
  cases ht
  split
  · exact k.carryOutRequest h _
  · exact enqueue_keeps h _

theorem RequestsKeep.serveQueue (k : RequestsKeep p) (h : p s.env) : p (serveQueue s).env := by
  unfold Machine.serveQueue
  split
  · apply k.carryOutRequest
    exact h
  · exact h

theorem RequestsKeep.goodFrame (k : RequestsKeep p) (h : p s.env) (r : Request) : p (s.goodFrame r).env := by
  refine k.serveQueue (enqueue_keeps ?_ r)
  rw [endSilence_env]
  exact h

theorem RequestsKeep.receiveByte (k : RequestsKeep p) (h : p s.env) (b : Byte) : p (receiveByte s b).env := by
  unfold Machine.receiveByte
  split
  · split <;> exact h
  · dsimp only
    split
    · exact h
    · split
      · exact h
      · split
        · exact k.goodFrame h _
        · exact h

theorem RequestsKeep.receiveBytes (k : RequestsKeep p) (h : p s.env) (bytes : List Byte) :
    p (bytes.foldl Machine.receiveByte s).env := by
  induction bytes generalizing s with
  | nil => exact h
  | cons b bs ih => exact ih (k.receiveByte h b)

theorem RequestsKeep.transmitNextFrame (k : RequestsKeep p) (h : p s.env) (ht : execTransmitNextFrame s = .next t) :
    p t.env := by
  cases ht
  split
  · exact h
  · split
    · exact k.serveQueue (s := State.send _ _ _) h
    · exact h
    · exact h

theorem RequestsKeep.frameSent (k : RequestsKeep p) (h : p s.env) (ht : execFrameSent s = .next t) : p t.env := by
  cases ht
  split
  · exact h
  · dsimp only
    split
    · exact h
    · exact k.restarts .request s.env h
    · exact h

end

/-! ### Settings that a write leaves alone -/

theorem reclamp_keeps {α : Type} (f : Settings → α) (is : List SettingId) (c : Settings)
    (hf : ∀ i ∈ is, ∀ c v, f (putSetting c i v) = f c) : f (reclamp is c).1 = f c := by
  induction is generalizing c with
  | nil => rfl
  | cons i is ih =>
    obtain ⟨hi, his⟩ := List.forall_mem_cons.mp hf
    unfold reclamp
    dsimp only
    split
    · exact ih c his
    · exact (ih _ his).trans (hi c _)

theorem putSetting_source (c : Settings) (i : SettingId) (v : Int) (h : i ≠ .source) :
    (putSetting c i v).source = c.source := by
  cases i
  case source => exact absurd rfl h
  all_goals rfl

theorem source_notMem_dependents (i : SettingId) : SettingId.source ∉ dependents i := by
  cases i <;> simp [dependents]

theorem topWritten_env (s : State) : s.topWritten.env = { s.env with level := s.topWritten.env.level } := by
  unfold State.topWritten
  dsimp only
  split <;> rfl

/-- An accepted write of any setting but the tariff source leaves the clock and tariff unit alone. -/
theorem written_clock (s : State) (old : Settings) (i : SettingId) (hs : i ≠ .source) :
    (s.written old i).env.clock = s.env.clock ∧ (s.written old i).env.cfg = s.env.cfg := by
  by_cases ht : i = .lTop
  · subst ht
    show s.topWritten.env.clock = _ ∧ s.topWritten.env.cfg = _
    rw [topWritten_env]
    exact ⟨rfl, rfl⟩
  · rw [written_env s old i ht hs]
    exact ⟨rfl, rfl⟩

end Sys2Proof.Machine
end

section
namespace Sys2Proof.Machine

/-! ### The tariff state and its basis (R27) -/

/-- The tariff state is the one that an evaluation would give. -/
def TariffFollows (e : Env) : Prop := e.clock.tariff = tariffOf e.cfg e.clock

theorem tariffSound_iff (s : State) : TariffSound s ↔ TariffFollows s.env := Iff.rfl

/-- Everything that an evaluation of the tariff state reads, and the state in force, stand. -/
structure SameBasis (e e' : Env) : Prop where
  source : e'.cfg.set.source = e.cfg.set.source
  windows : e'.cfg.windows = e.cfg.windows
  isSet : e'.clock.isSet = e.clock.isSet
  minute : e'.clock.minute = e.clock.minute
  line : e'.clock.line = e.clock.line
  isStale : e'.clock.isStale = e.clock.isStale
  tariff : e'.clock.tariff = e.clock.tariff

theorem SameBasis.tariffOf_eq {e e' : Env} (k : SameBasis e e') : tariffOf e'.cfg e'.clock = tariffOf e.cfg e.clock := by
  unfold tariffOf basisOf calendarTariff lineTariff judge
  rw [k.source, k.windows, k.isSet, k.minute, k.line, k.isStale]

theorem TariffFollows.of_sameBasis {e e' : Env} (h : TariffFollows e) (k : SameBasis e e') : TariffFollows e' :=
  k.tariff.trans (Eq.trans h k.tariffOf_eq.symm)

/-- The tariff state is no part of its own basis: an evaluation repeated gives the same. -/
theorem tariffFollows_evaluateTariff (s : State) : TariffFollows s.evaluateTariff.env := rfl

/-- The debounce of the line is no part of the basis (R26). -/
theorem Clock.seeLine_frame (c : Clock) (k : Contact) :
    c.seeLine k = { c with lineDebounce := (c.seeLine k).lineDebounce } := by
  unfold Clock.seeLine
  split <;> rfl

theorem SameBasis.of_seeLine {e e' : Env} {k : Contact} (hcfg : e'.cfg = e.cfg) (hclock : e'.clock = e.clock.seeLine k) :
    SameBasis e e' := by
  rw [Clock.seeLine_frame] at hclock
  obtain ⟨cfg, level, clock, sys, pins⟩ := e'
  subst hcfg hclock
  exact ⟨rfl, rfl, rfl, rfl, rfl, rfl, rfl⟩

theorem Clock.isStale_iff (c : Clock) : c.isStale = true ↔ 1800 ≤ c.stale := decide_eq_true_iff

theorem Clock.lineTick_stale (c : Clock) : c.lineTick.stale = min 1800 (c.stale + 1) := rfl

/-- A tick of the line's minute counter makes the line STALE exactly where 1799 minutes had passed (R26). -/
theorem Clock.lineTick_becomesStale (c : Clock) : (c.lineTick.isStale && !c.isStale) = true ↔ c.stale = 1799 := by
  rw [Bool.and_eq_true, Bool.not_eq_true', ← Bool.not_eq_true, Clock.isStale_iff, Clock.isStale_iff, Clock.lineTick_stale]
  omega

/-- Any other tick leaves the line STALE, or not STALE, as it was. -/
theorem Clock.lineTick_isStale {c : Clock} (h : c.stale ≠ 1799) : c.lineTick.isStale = c.isStale := by
  rw [Bool.eq_iff_iff, Clock.isStale_iff, Clock.isStale_iff, Clock.lineTick_stale]
  omega

theorem TariffFollows.lineMinuteTick {s t : State} (h : TariffFollows s.env) (ht : execLineMinuteTick s = .next t) :
    TariffFollows t.env := by
  cases ht
  split
  · exact tariffFollows_evaluateTariff _
  · rename_i hs
    have stands := Clock.lineTick_isStale (mt s.env.clock.lineTick_becomesStale.mpr hs)
    exact h.of_sameBasis ⟨rfl, rfl, rfl, rfl, rfl, stands, rfl⟩

/-! ### Answers, restarts and changes of mode -/

/-- A change of mode changes nothing of the clock but the line's debounce, and no setting (R26). -/
theorem changeMode_sameBasis (m : Mode) (s : State) : SameBasis s.env (changeMode m s).env := by
  unfold changeMode
  split
  case h_3 => exact .of_seeLine (k := s.env.clock.line) rfl rfl
  case h_4 => exact .of_seeLine (k := s.env.pins.tariff) rfl rfl
  all_goals exact ⟨rfl, rfl, rfl, rfl, rfl, rfl, rfl⟩

/-- SET MODE leaves the environment, or changes the mode. -/
theorem askMode_env (m : Mode) (s : State) :
    (askMode m s).1.env = s.env ∨ ∃ m', (askMode m s).1.env = (changeMode m' s).env := by
  unfold askMode
  split
  · split
    · exact .inr ⟨_, rfl⟩
    · exact .inl rfl
  · split
    · exact .inl rfl
    · exact .inr ⟨_, rfl⟩
  case h_3 | h_4 => exact .inr ⟨_, rfl⟩
  all_goals exact .inl rfl

theorem TariffFollows.answerSetMode {s : State} (h : TariffFollows s.env) (body : List Byte) :
    TariffFollows (answerSetMode body s).1.env := by
  unfold Machine.answerSetMode
  split
  · rcases askMode_env _ s with he | ⟨m, he⟩ <;> rw [he]
    · exact h
    · exact h.of_sameBasis (changeMode_sameBasis m s)
  · exact h

/-- A write of the source is followed by an evaluation; no other write touches the basis. -/
theorem TariffFollows.writeValue {s : State} (h : TariffFollows s.env) (i : SettingId) (v : Int) :
    TariffFollows (writeValue i v s).1.env := by
  unfold Machine.writeValue
  dsimp only
  split
  · exact h
  · by_cases hi : i = .source
    · subst hi
      exact tariffFollows_evaluateTariff _
    · have hsource := reclamp_keeps Settings.source (dependents i)
        (putSetting s.env.cfg.set i (takenValue s.env.cfg.set i v))
        fun j hj c w => putSetting_source c j w (ne_of_mem_of_not_mem hj (source_notMem_dependents i))
      rw [putSetting_source _ _ _ hi] at hsource
      refine h.of_sameBasis ⟨?_, ?_, ?_, ?_, ?_, ?_, ?_⟩
      · rw [(written_clock _ _ i hi).2]
        exact hsource
      · rw [(written_clock _ _ i hi).2]
        rfl
      all_goals
        rw [(written_clock _ _ i hi).1]
        rfl

theorem TariffFollows.answerWriteSetting {s : State} (h : TariffFollows s.env) (body : List Byte) :
    TariffFollows (answerWriteSetting body s).1.env := by
  unfold Machine.answerWriteSetting
  split
  · exact h
  · split
    · exact h
    · split
      · exact h
      · split
        · exact h
        · exact h.writeValue _ _

theorem TariffFollows.answerWriteGeometry {s : State} (h : TariffFollows s.env) (body : List Byte) :
    TariffFollows (answerWriteGeometry body s).1.env := by
  unfold Machine.answerWriteGeometry
  split
  · exact h
  · split
    · exact h
    · split
      · exact h
      · dsimp only
        split
        · dsimp only
          split <;> exact h
        · exact h

theorem TariffFollows.answerWriteTariffWindows {s : State} (h : TariffFollows s.env) (body : List Byte) :
    TariffFollows (answerWriteTariffWindows body s).1.env := by
  unfold Machine.answerWriteTariffWindows
  split
  · exact h
  · split
    · exact h
    · dsimp only
      split
      · exact tariffFollows_evaluateTariff _
      · exact h

theorem TariffFollows.answerCommitSettings {s : State} (h : TariffFollows s.env) (tag : Byte) (body : List Byte) :
    TariffFollows (answerCommitSettings tag body s).1.env := by
  unfold Machine.answerCommitSettings
  split
  · exact h
  · split <;> exact h

theorem TariffFollows.answerSetClock {s : State} (h : TariffFollows s.env) (body : List Byte) :
    TariffFollows (answerSetClock body s).1.env := by
  unfold Machine.answerSetClock
  split
  · exact h
  · exact tariffFollows_evaluateTariff _

theorem TariffFollows.answerSimulateInputs {s : State} (h : TariffFollows s.env) (body : List Byte) :
    TariffFollows (answerSimulateInputs body s).1.env := by
  unfold Machine.answerSimulateInputs
  split
  · exact h
  · split
    · exact h
    · exact h.of_sameBasis (.of_seeLine (k := (simulatedTaken s.env.sys.sim.total60 body).tariff) rfl rfl)

theorem TariffFollows.answerSetCounter {s : State} (h : TariffFollows s.env) (body : List Byte) :
    TariffFollows (answerSetCounter body s).1.env := by
  unfold Machine.answerSetCounter
  split
  · split
    · exact h
    · split <;> exact h
  · exact h

/-- Answers evaluate the tariff state where they move its basis, and a restart makes the first evaluation (R32). -/
theorem requestsKeep_tariffFollows : RequestsKeep TariffFollows where
  answers ha s h := by
    rcases answerByKind_cases ha with hk | rfl | rfl | rfl | rfl | rfl | rfl | rfl | rfl
    · exact (hk s).symm ▸ h
    · exact h.answerSetMode _
    · exact h.answerWriteSetting _
    · exact h.answerWriteGeometry _
    · exact h.answerWriteTariffWindows _
    · exact h.answerCommitSettings _ _
    · exact h.answerSetClock _
    · exact h.answerSimulateInputs _
    · exact h.answerSetCounter _
  restarts _ _ _ := rfl

/-! ### Every step -/

/-- The air and zone reads change the plant alone; a real cold read may end COMMISSION (R148). -/
theorem TariffFollows.sensorRead {s t : State} (h : TariffFollows s.env) {z1 z2 z3 z4 air : Option Int}
    (ht : execSensorRead z1 z2 z3 z4 air s = .next t) : TariffFollows t.env := by
  cases ht
  split
  · dsimp only
    split
    · refine TariffFollows.of_sameBasis ?_ (changeMode_sameBasis .setup _)
      exact h
    · exact h
  · exact h

theorem TariffFollows.exec {s t : State} (h : TariffFollows s.env) {i : Instr} (ht : exec i s = .next t) :
    TariffFollows t.env := by
  cases hr : requestOf i with
  | some r =>
    obtain ⟨answer, he, ha⟩ := exec_request i r s hr
    exact requestsKeep_tariffFollows.submit h ha (he ▸ ht)
  | none =>
    cases i <;> simp only [requestOf, reduceCtorEq] at hr
    case powerOn | supplyDipRestart | resetLine => cases ht; exact requestsKeep_tariffFollows.restarts _ _ h
    case unknownKind kind tag body => exact requestsKeep_tariffFollows.unknownKind h ht
    case receiveFrame bytes => cases ht; exact requestsKeep_tariffFollows.receiveBytes h bytes
    case transmitNextFrame => exact requestsKeep_tariffFollows.transmitNextFrame h ht
    case frameSent => exact requestsKeep_tariffFollows.frameSent h ht
    case clockMinute | tariffDebounceExpiry =>
      cases ht
      split
      · exact tariffFollows_evaluateTariff _
      · exact h
    case tariffContactChange k =>
      cases ht
      split
      · exact h
      · exact h.of_sameBasis (.of_seeLine (k := k) rfl rfl)
    case lineMinuteTick => exact h.lineMinuteTick ht
    case sensorRead z1 z2 z3 z4 air => exact h.sensorRead ht
    case floatDebounceExpiry f | floatContactChange f w => cases ht; split <;> cases f <;> exact h
    case commitDone | clearTrendDone | receiveGapTimeout | silenceStart | runFeedbackChange | simulatedFeedbackChange |
        restEnd | stagnationMinute | inflowPulse | simulatedInflowPulse | lowWetTimerExpiry | reportTimerExpiry =>
      cases ht
      split <;> exact h
    all_goals
      cases ht
      exact h

/-- A second moves the debounce, the second and the line's seconds, none of which is of the basis. -/
theorem TariffFollows.tick {s : State} (h : TariffFollows s.env) : TariffFollows (tick s).env :=
  h.of_sameBasis ⟨rfl, rfl, rfl, rfl, rfl, rfl, rfl⟩

/-- Settles O24: whatever moves the basis evaluates the tariff state, and nothing else moves either. -/
theorem tariffFollowsBasis : Obligations.TariffFollowsBasis := by
  intro s t h ht
  rw [tariffSound_iff] at h ⊢
  unfold step at ht
  split at ht
  · refine TariffFollows.exec ?_ ht
    exact h
  · cases ht
    exact h.tick

end Sys2Proof.Machine
end

section
namespace Sys2Proof.Machine

/-! ### The day clock (R21, R22) -/

/-- A block's bare answer that changes nothing is its reply alone. -/
theorem submit_bare {kind tag : Byte} {body : List Byte} {answer : State → State × Answer} {s : State} {c : Code}
    (hc : s.clearToAnswer = true) (ht : tag ≠ 0) (hl : isLong kind = false) (h : answer s = (s, .bare c)) :
    submit kind tag body answer s = .next { s with link := repliedLink s (replyTo s kind tag c [] .nothing) } := by
  rw [submit_answered kind tag body answer s hc ht hl, h]
  rfl

theorem exec_clockMinute_of_set {s : State} (h : s.env.clock.isSet = true) :
    exec .clockMinute s = .next (s.setClock s.env.clock.tickMinute).evaluateTariff :=
  congrArg Host.Outcome.next (if_pos h)

theorem exec_clockMinute_of_unset {s : State} (h : s.env.clock.isSet = false) : exec .clockMinute s = .next s :=
  congrArg Host.Outcome.next (if_neg (Bool.eq_false_iff.mp h))

/-- The body that carries a reading of the day clock. -/
def clockBody (m sec : Nat) : List Byte := u16 m ++ u8 sec ++ [0]

theorem field_clockBody_minute (m sec : Nat) (h : m < 65536) : field (clockBody m sec) 0 2 = m := by
  unfold clockBody
  rw [List.append_assoc, field_zero_of_append _ _ 2 rfl, number_u16, Nat.mod_eq_of_lt h]

theorem field_clockBody_second (m sec : Nat) (h : sec < 256) : field (clockBody m sec) 2 1 = sec := by
  unfold clockBody
  rw [List.append_assoc, field_of_append _ _ _ 2 1 rfl rfl, number_u8, Nat.mod_eq_of_lt h]

/-- The clock as SET CLOCK sets it, the tariff state not evaluated yet (R22). -/
def Clock.setTo (c : Clock) (m sec : Nat) : Clock := { c with isSet := true, minute := min 10079 m, second := min 59 sec }

/-- The answer to a body that carries a reading: OK where it was taken as it stood, else CLAMPED with what was taken. -/
theorem answerSetClock_body (m sec : Nat) (s : State) (hm : m < 65536) (hs : sec < 256) :
    answerSetClock (clockBody m sec) s = ((s.setClock (s.env.clock.setTo m sec)).evaluateTariff,
      if m ≤ 10079 ∧ sec ≤ 59 then .bare .ok else .of .clamped (u16 (min 10079 m) ++ u8 (min 59 sec))) := by
  have hform : wellFormedBody 4 (clockBody m sec) = true := wellFormedBody_append_zero _ _ rfl
  unfold answerSetClock
  rw [hform, field_clockBody_minute m sec hm, field_clockBody_second m sec hs]
  refine Prod.ext rfl ?_
  have hclamp : (decide (min 10079 m ≠ m) || decide (min 59 sec ≠ sec)) = !decide (m ≤ 10079 ∧ sec ≤ 59) := by
    rw [Bool.eq_iff_iff, Bool.or_eq_true, Bool.not_eq_true', decide_eq_true_eq, decide_eq_true_eq, decide_eq_false_iff_not]
    omega
  show Answer.of (okOr (decide (min 10079 m ≠ m) || decide (min 59 sec ≠ sec)))
    (if (decide (min 10079 m ≠ m) || decide (min 59 sec ≠ sec)) = true then _ else _) = _
  rw [hclamp]
  by_cases hin : m ≤ 10079 ∧ sec ≤ 59
  · rw [decide_eq_true hin, if_pos hin]
    rfl
  · rw [decide_eq_false hin, if_neg hin]
    rfl

theorem wellFormedBody_false {n : Nat} {body : List Byte} (h : body.length ≠ n ∨ body.getLast? ≠ some 0) :
    wellFormedBody n body = false := by
  unfold wellFormedBody
  rw [Bool.and_eq_false_iff, beq_eq_false_iff_ne, beq_eq_false_iff_ne]
  exact h

/-- A body of another length, or with a reserved byte that is not 0, is refused with FORM (R181 f). -/
theorem answerSetClock_form {body : List Byte} (h : wellFormedBody 4 body = false) (s : State) :
    answerSetClock body s = (s, .bare .form) := by
  unfold answerSetClock
  rw [h]
  rfl

/-- Settles O21: both ways to move the clock end in an evaluation of the tariff state, and SET CLOCK reads its body back. -/
theorem dayClock : Obligations.DayClock := by
  refine ⟨fun s => exec_clockMinute_of_unset, fun s hset => ?minute, fun tag m sec s ht hc hm hs => ?taken,
    fun tag body s ht hc hb => ?refused⟩
  case minute => exact ⟨_, exec_clockMinute_of_set hset, rfl, rfl, rfl, rfl, rfl, rfl, rfl⟩
  case taken =>
    have hexec : exec (.setClock tag (clockBody m sec)) s = .next ((answerSetClock (clockBody m sec) s).1.reply 0x17 tag
        (answerSetClock (clockBody m sec) s).2) := submit_answered 0x17 tag _ _ s hc ht rfl
    rw [answerSetClock_body m sec s hm hs] at hexec
    refine ⟨_, hexec, rfl, rfl, rfl, rfl, rfl, rfl, ?_⟩
    dsimp only
    split <;> rfl
  case refused => exact submit_bare hc ht rfl (answerSetClock_form (wellFormedBody_false hb) s)

/-! ### The tariff line (R26, R30) -/

theorem exec_tariffContactChange (k : Contact) (s : State) (h : s.env.sys.mode ≠ .commission) :
    exec (.tariffContactChange k) s =
      .next ((s.setPins { s.env.pins with tariff := k }).setClock (s.env.clock.seeLine k)) :=
  congrArg Host.Outcome.next (if_neg h)

theorem exec_tariffContactChange_commission (k : Contact) (s : State) (h : s.env.sys.mode = .commission) :
    exec (.tariffContactChange k) s = .next (s.setPins { s.env.pins with tariff := k }) :=
  congrArg Host.Outcome.next (if_pos h)

theorem Clock.seeLine_eq (c : Clock) (k : Contact) :
    c.seeLine k = { c with lineDebounce := if k = c.line then none else some (c.lineDebounce.getD 0) } := by
  unfold Clock.seeLine
  split <;> rfl

theorem exec_tariffDebounceExpiry_of_running {s : State} (h : s.env.clock.lineDebounce.isSome = true) :
    exec .tariffDebounceExpiry s = .next (s.setClock s.env.clock.flipLine).evaluateTariff :=
  congrArg Host.Outcome.next (if_pos h)

theorem exec_tariffDebounceExpiry_of_none {s : State} (h : s.env.clock.lineDebounce = none) :
    exec .tariffDebounceExpiry s = .next s := by
  show Host.Outcome.next (ite _ _ _) = _
  rw [h]
  rfl

/-- A complete cheap period of 30 to 1440 minutes is learned (R30). -/
theorem learnedAfter_of_complete {c : Clock} {m : Nat} (h : c.lineCheap = some ⟨m, true⟩) (hl : 30 ≤ m) (hu : m ≤ 1440) :
    learnedAfter c = m := by
  unfold learnedAfter
  rw [h]
  exact if_pos (Bool.and_eq_true_iff.mpr ⟨decide_eq_true hl, decide_eq_true hu⟩)

/-- No other cheap period changes the learned length. -/
theorem learnedAfter_of_other {c : Clock} (h : ∀ m, c.lineCheap = some ⟨m, true⟩ → m < 30 ∨ 1440 < m) :
    learnedAfter c = c.learned := by
  unfold learnedAfter
  split
  · rename_i m hm
    refine if_neg ?_
    rw [Bool.and_eq_true, decide_eq_true_eq, decide_eq_true_eq]
    have := h m hm
    omega
  · rfl

/-- The line goes cheap: its start is marked, nothing is learned (R26). -/
theorem Clock.flipLine_of_opened {c : Clock} (h : c.line = .opened) : c.flipLine =
    { c with line := .closed, lineDebounce := none, stale := 0, lineSecs := 0, lineCheap := some ⟨0, true⟩ } := by
  simp [Clock.flipLine, h, otherContact]

/-- The line goes dear: the period that ends is judged (R30). -/
theorem Clock.flipLine_of_closed {c : Clock} (h : c.line = .closed) : c.flipLine =
    { c with line := .opened, lineDebounce := none, stale := 0, lineSecs := 0, lineCheap := none
             learned := learnedAfter c } := by
  simp [Clock.flipLine, h, otherContact]

theorem Clock.lineTick_eq (c : Clock) : c.lineTick = { c with
    lineSecs := 0, stale := min 1800 (c.stale + 1)
    lineCheap := c.lineCheap.map fun l => ⟨min 65535 (l.minutes + 1), l.complete⟩ } := by
  simp only [Clock.lineTick, satAdd_eq_min]
  rfl

/-- A tick that makes the line STALE evaluates the tariff state; any other leaves it. -/
theorem exec_lineMinuteTick (s : State) : exec .lineMinuteTick s =
    .next (if s.env.clock.stale = 1799 then (s.setClock s.env.clock.lineTick).evaluateTariff
      else s.setClock s.env.clock.lineTick) :=
  congrArg Host.Outcome.next (ite_congr (propext s.env.clock.lineTick_becomesStale) (fun _ => rfl) fun _ => rfl)

/-- Settles O22: the debounce, the change of the reported state and the tick, each with its own effect on the clock unit. -/
theorem tariffLine : Obligations.TariffLine := by
  refine ⟨fun k s hmode => ?seen, exec_tariffContactChange_commission, fun s => exec_tariffDebounceExpiry_of_none,
    fun s hrun => ?flip, fun s => ?tick⟩
  case seen =>
    rw [exec_tariffContactChange k s hmode, Clock.seeLine_eq]
    rfl
  case flip =>
    refine ⟨_, exec_tariffDebounceExpiry_of_running hrun, rfl, rfl, rfl, rfl, rfl, rfl, rfl, rfl, rfl,
      fun hopen => ?cheap, fun hclosed => ?dear⟩
    case cheap =>
      rw [evaluateTariff_env, State.setClock_env_clock, Clock.flipLine_of_opened hopen]
      exact ⟨rfl, rfl, rfl⟩
    case dear =>
      rw [evaluateTariff_env, State.setClock_env_clock, Clock.flipLine_of_closed hclosed]
      exact ⟨rfl, rfl, fun m => learnedAfter_of_complete, learnedAfter_of_other⟩
  case tick =>
    rw [exec_lineMinuteTick, Clock.lineTick_eq]
    split
    · exact ⟨_, rfl, rfl, rfl, rfl, fun _ => rfl⟩
    · rename_i hstale
      exact ⟨_, rfl, rfl, rfl, rfl, fun h => absurd h hstale⟩

end Sys2Proof.Machine
end

section
namespace Sys2Proof.Machine

/-! ### A calendar as WRITE TARIFF WINDOWS carries it (R24, R181 d) -/

/-- A window's four bytes. -/
def windowEntry (w : Window) : List Byte := u16 w.start ++ u16 w.stop

/-- The body that carries a calendar. -/
def windowsBody (ws : List Window) : List Byte := u8 ws.length ++ ws.flatMap windowEntry ++ [0]

theorem length_windowEntries (ws : List Window) : (ws.flatMap windowEntry).length = 4 * ws.length := by
  rw [List.length_flatMap, show (fun w => (windowEntry w).length) = fun _ => 4 from rfl, List.map_const',
    List.sum_replicate_nat, Nat.mul_comm]

theorem field_windowsBody (ws : List Window) (h : ws.length < 256) : field (windowsBody ws) 0 1 = ws.length := by
  unfold windowsBody
  rw [List.append_assoc, field_zero_of_append _ _ 1 rfl, number_u8, Nat.mod_eq_of_lt h]

theorem wellFormedList_windowsBody (ws : List Window) (h : ws.length < 256) : wellFormedList 4 (windowsBody ws) = true := by
  have hb : wellFormedBody (1 + 4 * ws.length + 1) (windowsBody ws) = true :=
    wellFormedBody_append_zero _ _ (by rw [List.length_append, length_windowEntries, length_u8])
  unfold wellFormedList
  rw [field_windowsBody ws h, hb]
  rfl

/-- The entries are read back as they were written. -/
theorem readWindows_entries (ws : List Window) (rest : List Byte) (h : ∀ w ∈ ws, w.start < 65536 ∧ w.stop < 65536) :
    readWindows ws.length (ws.flatMap windowEntry ++ rest) = ws := by
  induction ws with
  | nil => rfl
  | cons w ws ih =>
    obtain ⟨⟨hstart, hstop⟩, hws⟩ := List.forall_mem_cons.mp h
    have hbytes : (w :: ws).flatMap windowEntry ++ rest =
        u16 w.start ++ (u16 w.stop ++ (ws.flatMap windowEntry ++ rest)) := by
      simp [windowEntry]
    rw [hbytes, List.length_cons, readWindows, field_zero_of_append _ _ 2 rfl, field_of_append _ _ _ 2 2 rfl rfl,
      number_u16, number_u16, Nat.mod_eq_of_lt hstart, Nat.mod_eq_of_lt hstop]
    exact congrArg (w :: ·) (ih hws)

/-! ### The calendars that are taken (R23, R24) -/

/-- A window of the week that is not empty. -/
def Window.Proper (w : Window) : Prop := w.start ≤ 10079 ∧ w.stop ≤ 10079 ∧ w.start ≠ w.stop

/-- Two windows neither touch nor share a minute of the week. -/
def Window.Apart (a b : Window) : Prop :=
  a.stop ≠ b.start ∧ b.stop ≠ a.start ∧ ∀ m, m < 10080 → ¬ (a.covers m = true ∧ b.covers m = true)

theorem Window.covers_iff (w : Window) (m : Nat) : w.covers m = true ↔
    (w.start < w.stop ∧ w.start ≤ m ∧ m < w.stop) ∨ (w.stop < w.start ∧ (w.start ≤ m ∨ m < w.stop)) := by
  unfold Window.covers
  split
  · simp only [Bool.and_eq_true, decide_eq_true_eq]
    omega
  · split
    · simp only [Bool.or_eq_true, decide_eq_true_eq]
      omega
    · simp only [Bool.false_eq_true, false_iff]
      omega

/-- Two arcs of the week meet exactly where one of them holds the start of the other. -/
theorem Window.exists_covers_iff {a b : Window} (ha : a.Proper) (hb : b.Proper) :
    (∃ m, m < 10080 ∧ a.covers m = true ∧ b.covers m = true) ↔ a.covers b.start = true ∨ b.covers a.start = true := by
  obtain ⟨ha1, ha2, ha3⟩ := ha
  obtain ⟨hb1, hb2, hb3⟩ := hb
  constructor
  · rintro ⟨m, hm, h⟩
    simp only [Window.covers_iff] at h ⊢
    omega
  · rintro (h | h)
    · exact ⟨b.start, by omega, h, by rw [Window.covers_iff]; omega⟩
    · exact ⟨a.start, by omega, by rw [Window.covers_iff]; omega, h⟩

theorem windowsApart_iff {a b : Window} (ha : a.Proper) (hb : b.Proper) : windowsApart a b = true ↔ a.Apart b := by
  have hmeet : (∀ m, m < 10080 → ¬ (a.covers m = true ∧ b.covers m = true)) ↔
      a.covers b.start = false ∧ b.covers a.start = false := by
    rw [← Bool.not_eq_true, ← Bool.not_eq_true, ← not_or, ← Window.exists_covers_iff ha hb]
    exact ⟨fun h ⟨m, hm, hab⟩ => h m hm hab, fun h m hm hab => h ⟨m, hm, hab⟩⟩
  simp only [windowsApart, Bool.and_eq_true, Bool.not_eq_true', bne_iff_ne]
  rw [← hmeet]
  exact ⟨fun ⟨⟨hm, hab⟩, hba⟩ => ⟨hab, hba, hm⟩, fun ⟨hab, hba, hm⟩ => ⟨⟨hm, hab⟩, hba⟩⟩

theorem allApart_iff {ws : List Window} (h : ∀ w ∈ ws, w.Proper) : allApart ws = true ↔ ws.Pairwise Window.Apart := by
  induction ws with
  | nil => simp [allApart]
  | cons w ws ih =>
    obtain ⟨hw, hws⟩ := List.forall_mem_cons.mp h
    rw [allApart, Bool.and_eq_true, ih hws, List.pairwise_cons, List.all_eq_true]
    exact and_congr_left fun _ => forall₂_congr fun v hv => windowsApart_iff hw (hws v hv)

/-- R24 c: the calendars that WRITE TARIFF WINDOWS accepts. -/
theorem windowsAccepted_iff (ws : List Window) : windowsAccepted ws = true ↔
    ws.length ≤ 8 ∧ (∀ w ∈ ws, w.Proper) ∧ ws.Pairwise Window.Apart := by
  have hproper : ws.all (fun w => w.start < Config.weekMinutes && w.stop < Config.weekMinutes && w.start != w.stop) = true ↔
      ∀ w ∈ ws, w.Proper := by
    simp only [List.all_eq_true, Bool.and_eq_true, decide_eq_true_eq, bne_iff_ne, and_assoc]
    exact forall₂_congr fun w _ => by simp only [Window.Proper, Config.weekMinutes, Nat.lt_succ_iff]
  rw [windowsAccepted, Bool.and_eq_true, Bool.and_eq_true, and_assoc, hproper]
  exact and_congr decide_eq_true_iff (and_congr_right allApart_iff)

/-! ### WRITE TARIFF WINDOWS (R24) -/

/-- The answer to a body that carries a calendar: BUSY during a commit, then OK or RANGE. -/
theorem answerWriteTariffWindows_body (ws : List Window) (s : State) (hn : ws.length < 256)
    (h : ∀ w ∈ ws, w.start < 65536 ∧ w.stop < 65536) : answerWriteTariffWindows (windowsBody ws) s =
      if s.committing then (s, .bare .busy)
      else if windowsAccepted ws then ((s.setCfg { s.env.cfg with windows := ws }).evaluateTariff, .bare .ok)
      else (s, .bare .range) := by
  have hws : readWindows (field (windowsBody ws) 0 1) ((windowsBody ws).drop 1) = ws := by
    rw [field_windowsBody ws hn]
    exact readWindows_entries ws [0] h
  unfold answerWriteTariffWindows
  rw [wellFormedList_windowsBody ws hn, hws]
  rfl

/-- Settles O23: the body is read back as the calendar it carries, and the answer's checks are those of R23. -/
theorem writeTariffWindows : Obligations.WriteTariffWindows := by
  intro tag ws s ht hc hn hw
  have hanswer := answerWriteTariffWindows_body ws s (by omega) hw
  have hfree : s.env.sys.commit = none → ¬ s.committing = true := fun h => by simp [State.committing, h]
  refine ⟨fun hno had => ?taken, fun hno had => ?range, fun hbusy => ?busy⟩
  case taken =>
    rw [if_neg (hfree hno), if_pos ((windowsAccepted_iff ws).mpr had)] at hanswer
    have hexec : exec (.writeTariffWindows tag (windowsBody ws)) s =
        .next ((answerWriteTariffWindows (windowsBody ws) s).1.reply 0x14 tag
          (answerWriteTariffWindows (windowsBody ws) s).2) := submit_answered 0x14 tag _ _ s hc ht rfl
    rw [hanswer] at hexec
    exact ⟨_, hexec, rfl, rfl, rfl, rfl, rfl, rfl, rfl⟩
  case range =>
    rw [if_neg (hfree hno), if_neg (mt (windowsAccepted_iff ws).mp had)] at hanswer
    exact submit_bare hc ht rfl hanswer
  case busy =>
    rw [if_pos (show s.committing = true from hbusy)] at hanswer
    exact submit_bare hc ht rfl hanswer

end Sys2Proof.Machine
end

section
namespace Sys2Proof.Machine

/-! ### A new raise (R152) -/

theorem Alarms.readyRaise_of_lt {a : Alarms} (h : a.raiseCounter < 4294967295) : a.readyRaise = a := if_pos h

theorem Alarms.readyRaise_of_top {a : Alarms} (h : 4294967295 ≤ a.raiseCounter) : a.readyRaise = a.renumber :=
  if_neg (Nat.not_lt.mpr h)

theorem Alarms.readyRaise_changes (a : Alarms) : a.readyRaise.changes = a.changes := by
  unfold Alarms.readyRaise
  split <;> rfl

theorem Alarms.get_renumber (a : Alarms) (k : AlarmKind) :
    a.renumber.get k = { a.get k with raiseSeq := (a.get k).raiseSeq.map (rankAmong (raiseSeqs a)) } := by
  simp only [Alarms.get, Alarms.renumber, List.getD_eq_getElem?_getD, List.getElem?_map]
  cases a.table[k.place]? <;> rfl

theorem Alarms.get_raise_same (a : Alarms) (k : AlarmKind) (st : Option Stamp) (h : a.table.length = 24) :
    (a.raise k st).get k =
      ⟨.active, some a.readyRaise.raiseCounter, some st, min 255 ((a.readyRaise.get k).raises + 1)⟩ := by
  rw [← satAdd_eq_min]
  exact Alarms.get_put_same a.readyRaise k _ ((Alarms.length_readyRaise a).trans h)

theorem Alarms.get_raise_ne (a : Alarms) {j k : AlarmKind} (st : Option Stamp) (h : j ≠ k) :
    (a.raise k st).get j = a.readyRaise.get j := Alarms.get_put_ne a.readyRaise _ h

/-! ### The parts of a change (R152, R157) -/

/-- A change of a record touches the alarm unit, and hands the telemetry unit the raise before the ALARM notice (log 5). -/
theorem changeAlarm_eq (e : Env) (P : Plant) (k : AlarmKind) (new : AlarmState) : changeAlarm e P k new =
    { P with
      alarms := (changeAlarm e P k new).alarms
      telem := (if (P.alarms.get k).state = .quiet ∧ new = .active then P.telem.event e .alarmRaises 1
        else P.telem).queueNotice
          ⟨.alarm, 0, alarmBody e.cfg.set (changeAlarm e P k new).alarms k (P.alarms.get k).state new⟩ } := by
  unfold changeAlarm
  simp only [← Bool.decide_and, decide_eq_true_eq]
  split <;> rfl

/-- The alarm unit after a change of a record: a new raise where it leaves QUIET for ACTIVE, else the new state alone; and one
change counted. -/
theorem changeAlarm_alarms (e : Env) (P : Plant) (k : AlarmKind) (new : AlarmState) : (changeAlarm e P k new).alarms =
    { (if (P.alarms.get k).state = .quiet ∧ new = .active then P.alarms.raise k e.clock.stamp
        else P.alarms.put k { P.alarms.get k with state := new }) with changes := nextChange P.alarms.changes } := by
  have hraise : (P.alarms.raise k e.clock.stamp).changes = P.alarms.changes := Alarms.readyRaise_changes P.alarms
  unfold changeAlarm
  simp only [← Bool.decide_and, decide_eq_true_eq]
  split
  · rw [← hraise]
    rfl
  · rfl

theorem changeAlarm_changes (e : Env) (P : Plant) (k : AlarmKind) (new : AlarmState) :
    (changeAlarm e P k new).alarms.changes = nextChange P.alarms.changes := by rw [changeAlarm_alarms]

section
variable {P : Plant} {k : AlarmKind} {new : AlarmState}

/-! #### A new raise -/

theorem changeAlarm_alarms_raised (e : Env) (hq : (P.alarms.get k).state = .quiet) (hn : new = .active) :
    (changeAlarm e P k new).alarms =
      { P.alarms.raise k e.clock.stamp with changes := nextChange P.alarms.changes } := by
  rw [changeAlarm_alarms, if_pos ⟨hq, hn⟩]

theorem changeAlarm_raised_same (e : Env) (h : P.alarms.table.length = 24) (hq : (P.alarms.get k).state = .quiet)
    (hn : new = .active) : (changeAlarm e P k new).alarms.get k =
      ⟨.active, some P.alarms.readyRaise.raiseCounter, some e.clock.stamp, min 255 ((P.alarms.readyRaise.get k).raises + 1)⟩ := by
  rw [changeAlarm_alarms_raised e hq hn]
  exact Alarms.get_raise_same P.alarms k e.clock.stamp h

theorem changeAlarm_raised_ne (e : Env) (hq : (P.alarms.get k).state = .quiet) (hn : new = .active) {j : AlarmKind}
    (h : j ≠ k) : (changeAlarm e P k new).alarms.get j = P.alarms.readyRaise.get j := by
  rw [changeAlarm_alarms_raised e hq hn]
  exact Alarms.get_raise_ne P.alarms e.clock.stamp h

theorem changeAlarm_raised_raiseCounter (e : Env) (hq : (P.alarms.get k).state = .quiet) (hn : new = .active) :
    (changeAlarm e P k new).alarms.raiseCounter = P.alarms.readyRaise.raiseCounter + 1 := by
  rw [changeAlarm_alarms_raised e hq hn]
  rfl

/-! #### Any other change -/

theorem changeAlarm_alarms_of_not_quiet (e : Env) (hq : (P.alarms.get k).state ≠ .quiet) :
    (changeAlarm e P k new).alarms =
      { P.alarms.put k { P.alarms.get k with state := new } with changes := nextChange P.alarms.changes } := by
  rw [changeAlarm_alarms, if_neg fun h => hq h.1]

theorem changeAlarm_same_of_not_quiet (e : Env) (h : P.alarms.table.length = 24) (hq : (P.alarms.get k).state ≠ .quiet) :
    (changeAlarm e P k new).alarms.get k = { P.alarms.get k with state := new } := by
  rw [changeAlarm_alarms_of_not_quiet e hq]
  exact Alarms.get_put_same P.alarms k _ h

theorem changeAlarm_ne_of_not_quiet (e : Env) (hq : (P.alarms.get k).state ≠ .quiet) {j : AlarmKind} (h : j ≠ k) :
    (changeAlarm e P k new).alarms.get j = P.alarms.get j := by
  rw [changeAlarm_alarms_of_not_quiet e hq]
  exact Alarms.get_put_ne P.alarms _ h

theorem changeAlarm_raiseCounter_of_not_quiet (e : Env) (hq : (P.alarms.get k).state ≠ .quiet) :
    (changeAlarm e P k new).alarms.raiseCounter = P.alarms.raiseCounter := by
  rw [changeAlarm_alarms_of_not_quiet e hq]
  rfl

end

/-! ### The relay and the top record (R153, R156) -/

theorem AlarmState.standing_iff (st : AlarmState) : st.standing = true ↔ st = .active ∨ st = .latched := by
  cases st <;> decide

theorem relayOn_iff (c : Settings) (a : Alarms) : relayOn c a = true ↔
    ∃ j, ((a.get j).state = .active ∨ (a.get j).state = .latched) ∧ j.priority ≤ c.relayThreshold := by
  simp only [relayOn, List.any_eq_true, mem_allAlarms, true_and, Bool.and_eq_true, decide_eq_true_eq, AlarmState.standing_iff]

/-- An entry whose key is below every other entry's comes first. -/
theorem head?_sortBy_of_least {α : Type} {key : α → Nat} {l : List α} {x : α} (hx : x ∈ l)
    (hleast : ∀ y ∈ l, y ≠ x → key x < key y) : (sortBy key l).head? = some x := by
  have hsorted := pairwise_sortBy key l
  have hmem := (mem_sortBy key x l).mpr hx
  cases hs : sortBy key l with
  | nil => exact absurd (hs ▸ hmem) List.not_mem_nil
  | cons z zs =>
    rw [hs] at hsorted hmem
    have hz : z ∈ l := (mem_sortBy key z l).mp (hs ▸ List.mem_cons_self)
    rcases List.mem_cons.mp hmem with hxz | hxzs
    · exact congrArg some hxz.symm
    · have hle : key z ≤ key x := (List.pairwise_cons.mp hsorted).1 x hxzs
      have hzx : z = x := Classical.byContradiction fun hne => Nat.not_le.mpr (hleast z hz hne) hle
      exact congrArg some hzx

theorem mem_standing (a : Alarms) (k : AlarmKind) :
    (k ∈ allAlarms.filter fun k => (a.get k).state.standing) ↔ (a.get k).state = .active ∨ (a.get k).state = .latched := by
  rw [List.mem_filter, AlarmState.standing_iff]
  exact and_iff_right (mem_allAlarms k)

theorem topAlarm_of_none {a : Alarms} (h : ∀ k, ¬ ((a.get k).state = .active ∨ (a.get k).state = .latched)) :
    topAlarm a = none := by
  have hnil : (allAlarms.filter fun k => (a.get k).state.standing) = [] :=
    List.eq_nil_iff_forall_not_mem.mpr fun k hk => h k ((mem_standing a k).mp hk)
  unfold topAlarm
  rw [hnil]
  rfl

/-- The key that orders the records puts the priority before the raise sequence, which is below 2^32. -/
theorem topAlarm_of_least {a : Alarms} {k : AlarmKind} (hk : (a.get k).state = .active ∨ (a.get k).state = .latched)
    (hseq : (a.get k).raiseSeq.getD 0 < 4294967296)
    (hleast : ∀ j, (a.get j).state = .active ∨ (a.get j).state = .latched → j ≠ k → k.priority < j.priority ∨
      (k.priority = j.priority ∧ (a.get k).raiseSeq.getD 0 < (a.get j).raiseSeq.getD 0)) : topAlarm a = some k := by
  refine head?_sortBy_of_least ((mem_standing a k).mpr hk) fun j hj hjk => ?_
  have := hleast j ((mem_standing a j).mp hj) hjk
  omega

/-! ### The ALARM notice (R157) -/

/-- The top record's three bytes in the ALARM notice (log 72). -/
def topBytes (a : Alarms) : List Byte :=
  match topAlarm a with
  | some t => u8 (t.place + 1) ++ u8 (a.get t).state.code ++ u8 t.priority
  | none => [0xFF, 0xFF, 0xFF]

theorem topBytes_of_some {a : Alarms} {k : AlarmKind} (h : topAlarm a = some k) :
    topBytes a = u8 (k.place + 1) ++ u8 (a.get k).state.code ++ u8 k.priority := by
  unfold topBytes
  rw [h]

theorem topBytes_of_none {a : Alarms} (h : topAlarm a = none) : topBytes a = [0xFF, 0xFF, 0xFF] := by
  unfold topBytes
  rw [h]

theorem alarmBody_eq (c : Settings) (a : Alarms) (k : AlarmKind) (old new : AlarmState) : alarmBody c a k old new =
    u32 a.changes ++ u8 (k.place + 1) ++ u8 k.place ++ u8 old.code ++ u8 new.code ++ [if new.present then 0 else 1] ++
      topBytes a ++ u32 (alarmCount a .active) ++ u32 (alarmCount a .latched) ++ u32 (alarmCount a .acked) ++
        [if relayOn c a then 1 else 0] := by
  unfold alarmBody topBytes
  cases topAlarm a <;> cases new <;> rfl

/-! ### Appearances and goings (R151, R152) -/

/-- The changes that an appearance (`b` true) and a going (`b` false) bring about. -/
def AlarmState.Turns (b : Bool) (old new : AlarmState) : Prop :=
  (b = true ∧ (old = .quiet ∨ old = .latched) ∧ new = .active) ∨
    (b = false ∧ ((old = .active ∧ new = .latched) ∨ (old = .acked ∧ new = .quiet)))

theorem AlarmState.turns_iff (b : Bool) (old new : AlarmState) :
    old.Turns b new ↔ (if b then old.appeared else old.gone) = new ∧ new ≠ old := by
  unfold AlarmState.Turns
  cases b <;> cases old <;> cases new <;> decide

/-- A new raise is a change that leaves QUIET. -/
theorem AlarmState.Turns.raised_iff {b : Bool} {old new : AlarmState} (h : old.Turns b new) :
    old = .quiet ∧ new = .active ↔ old = .quiet := by
  refine and_iff_left_of_imp fun hq => ?_
  subst hq
  rcases h with ⟨-, -, hn⟩ | ⟨-, ⟨h, -⟩ | ⟨h, -⟩⟩
  · exact hn
  · cases h
  · cases h

theorem handleCond_of_turns {b : Bool} {k : AlarmKind} {new : AlarmState} {P : Plant} (e : Env)
    (h : (P.alarms.get k).state.Turns b new) : handleCond k b e P = (changeAlarm e P k new, []) := by
  obtain ⟨hnew, hne⟩ := (AlarmState.turns_iff _ _ _).mp h
  unfold handleCond
  dsimp only
  rw [hnew, if_neg hne]

theorem handleCond_of_stays {b : Bool} {k : AlarmKind} {P : Plant} (e : Env)
    (h : (b = true ∧ ((P.alarms.get k).state = .active ∨ (P.alarms.get k).state = .acked)) ∨
      (b = false ∧ ((P.alarms.get k).state = .quiet ∨ (P.alarms.get k).state = .latched))) :
    handleCond k b e P = (P, []) := by
  have hstays : (if b then (P.alarms.get k).state.appeared else (P.alarms.get k).state.gone) = (P.alarms.get k).state := by
    rcases h with ⟨rfl, h | h⟩ | ⟨rfl, h | h⟩ <;> rw [h] <;> rfl
  unfold handleCond
  dsimp only
  rw [if_pos hstays]

/-- Settles O46: a hand-over that turns the record is `changeAlarm`, whose table, count and notice are those of R152 to R157. -/
theorem alarmTransitions : Obligations.AlarmTransitions := by
  intro k b e P hlen
  refine ⟨rfl, fun h => congrArg Prod.fst (handleCond_of_stays e h), fun new hturn => ?_⟩
  have hturns : (P.alarms.get k).state.Turns b new := hturn
  have hQ : (handle (.cond k b) e P).1 = changeAlarm e P k new := congrArg Prod.fst (handleCond_of_turns e hturns)
  have hactive := fun hq => (hturns.raised_iff.mpr hq).2
  simp only [hQ]
  refine ⟨⟨(changeAlarm_length e P k new).trans hlen, changeAlarm_changes e P k new, fun hq => ?other, fun hq hlt => ?raise,
    fun hq htop => ?renumbered⟩, topBytes (changeAlarm e P k new).alarms,
    relayOn e.cfg.set (changeAlarm e P k new).alarms, ?notice, relayOn_iff _ _,
    fun hnone => topBytes_of_none (topAlarm_of_none hnone),
    fun j hj hseq hleast => topBytes_of_some (topAlarm_of_least hj (hseq j) hleast)⟩
  case other =>
    exact ⟨changeAlarm_same_of_not_quiet e hlen hq, changeAlarm_raiseCounter_of_not_quiet e hq,
      fun j hj => changeAlarm_ne_of_not_quiet e hq hj⟩
  case raise =>
    have hready := Alarms.readyRaise_of_lt hlt
    exact ⟨hready ▸ changeAlarm_raised_same e hlen hq (hactive hq),
      hready ▸ changeAlarm_raised_raiseCounter e hq (hactive hq),
      fun j hj => hready ▸ changeAlarm_raised_ne e hq (hactive hq) hj⟩
  case renumbered =>
    have hready := Alarms.readyRaise_of_top htop
    have hk := changeAlarm_raised_same e hlen hq (hactive hq)
    have hc := changeAlarm_raised_raiseCounter e hq (hactive hq)
    rw [hready] at hk hc
    refine ⟨?_, hc, fun j hj => ?_⟩
    · rw [hk, Alarms.get_renumber]
      rfl
    · rw [changeAlarm_raised_ne e hq (hactive hq) hj, hready, Alarms.get_renumber]
      rfl
  case notice =>
    have hpresent : new.present = b := by
      rw [← ((AlarmState.turns_iff _ _ _).mp hturns).1, present_turned]
    have hchange := changeAlarm_eq e P k new
    simp only [alarmBody_eq, hpresent, hturns.raised_iff] at hchange
    exact hchange

end Sys2Proof.Machine
end

section
namespace Sys2Proof.Machine

/-! ### Alarm ids (R150) -/

theorem alarmOfId_place (k : AlarmKind) : alarmOfId (k.place + 1) = some k := by cases k <;> rfl

theorem alarmOfId_eq_none_iff (n : Nat) : alarmOfId n = none ↔ n = 0 ∨ 24 < n := by
  cases n with
  | zero => exact iff_of_true rfl (.inl rfl)
  | succ m =>
    rw [show alarmOfId (m + 1) = allAlarms[m]? from rfl, List.getElem?_eq_none_iff, show allAlarms.length = 24 from rfl]
    omega

/-! ### ACK ALARM (R154) -/

/-- A request without a tag is refused with FORM, whatever its body (R177 b). -/
theorem submit_untagged {kind : Byte} {body : List Byte} {answer : State → State × Answer} {s : State}
    (hc : s.clearToAnswer = true) : submit kind 0 body answer s =
      .next { s with link := repliedLink s (replyTo s kind 0 .form [] .nothing) } := by
  unfold submit carryOut
  rw [if_pos hc, if_pos rfl]
  rfl

/-- An ALARM notice changes nothing of the telemetry unit but the queue, where it then waits (R165). -/
theorem queueNotice_alarm (t : Telem) (tag : Byte) (body : List Byte) :
    ∃ q, t.queueNotice ⟨.alarm, tag, body⟩ = { t with queue := q } ∧ ⟨.alarm, tag, body⟩ ∈ q := by
  by_cases hw : (t.queue.any fun m => m.kind == .alarm) = true
  · obtain ⟨m, hm, hkind⟩ := List.any_eq_true.mp hw
    exact ⟨replaceNotice ⟨.alarm, tag, body⟩ t.queue, if_pos hw, List.mem_map.mpr ⟨m, hm, if_pos (beq_iff_eq.mp hkind)⟩⟩
  · exact ⟨t.queue ++ [⟨.alarm, tag, body⟩], (if_neg hw).trans rfl, List.mem_append_right _ List.mem_cons_self⟩

theorem answerAckAlarm_form {body : List Byte} (s : State)
    (h : wellFormedBody 2 body = false ∨ alarmOfId (field body 0 1) = none) :
    answerAckAlarm body s = (s, .bare .form) := by
  unfold answerAckAlarm
  rcases h with h | h <;> rw [h]
  split
  · cases ‹none = some _›
  · rfl

theorem field_idBody {n : Nat} (hn : n < 256) (rest : List Byte) : field (u8 n ++ rest) 0 1 = n := by
  rw [field_zero_of_append _ _ 1 rfl, number_u8, Nat.mod_eq_of_lt hn]

/-- The answer to a body that names a record: a standing one is acknowledged, any other keeps its state (R154). -/
theorem answerAckAlarm_body (k : AlarmKind) (s : State) : answerAckAlarm (u8 (k.place + 1) ++ [0]) s =
    if (s.plant.alarms.get k).state.standing then
      (s.setPlant (changeAlarm s.env s.plant k (s.plant.alarms.get k).state.acknowledged),
        .of .ok (u8 (s.plant.alarms.get k).state.acknowledged.code))
    else (s, .of .state (u8 (s.plant.alarms.get k).state.code)) := by
  have hform : wellFormedBody 2 (u8 (k.place + 1) ++ [0]) = true := wellFormedBody_append_zero _ _ rfl
  unfold answerAckAlarm
  rw [hform, field_idBody (Nat.lt_trans (Nat.succ_lt_succ k.place_lt) (by decide)), alarmOfId_place]

/-- A record that stands is acknowledged: its state and the notice queue move, and nothing else does (R154). -/
theorem exec_ackAlarm_of_standing {tag : Byte} {s : State} {k : AlarmKind} {new : AlarmState} (ht : tag ≠ 0)
    (hc : s.clearToAnswer = true) (hlen : s.plant.alarms.table.length = 24)
    (hstands : (s.plant.alarms.get k).state.standing = true) (hnew : (s.plant.alarms.get k).state.acknowledged = new) :
    ∃ t, exec (.ackAlarm tag (u8 (k.place + 1) ++ [0])) s = .next t ∧ t.env = s.env ∧ t.pending = s.pending ∧
      t.link = repliedLink s (replyTo s 0x31 tag .ok (u8 new.code) .nothing) ∧
      (∃ q, t.plant = { s.plant with alarms := t.plant.alarms, telem := { s.plant.telem with queue := q } } ∧
        (∃ m ∈ q, m.kind = .alarm)) ∧
      t.plant.alarms.get k = { s.plant.alarms.get k with state := new } ∧
      (∀ j, j ≠ k → t.plant.alarms.get j = s.plant.alarms.get j) ∧
      t.plant.alarms.raiseCounter = s.plant.alarms.raiseCounter := by
  have hexec : exec (.ackAlarm tag (u8 (k.place + 1) ++ [0])) s = .next (_ : State) :=
    submit_answered 0x31 tag _ (answerAckAlarm (u8 (k.place + 1) ++ [0])) s hc ht rfl
  rw [answerAckAlarm_body, if_pos hstands, hnew] at hexec
  have hq : (s.plant.alarms.get k).state ≠ .quiet := fun h => by rw [h] at hstands; cases hstands
  obtain ⟨q, htelem, hwaits⟩ := queueNotice_alarm s.plant.telem 0
    (alarmBody s.env.cfg.set (changeAlarm s.env s.plant k new).alarms k (s.plant.alarms.get k).state new)
  refine ⟨_, hexec, rfl, rfl, rfl, ⟨q, ?plant, _, hwaits, rfl⟩, changeAlarm_same_of_not_quiet s.env hlen hq,
    fun j hj => changeAlarm_ne_of_not_quiet s.env hq hj, changeAlarm_raiseCounter_of_not_quiet s.env hq⟩
  case plant =>
    have hplant := changeAlarm_eq s.env s.plant k new
    rw [if_neg fun h => hq h.1, htelem] at hplant
    exact hplant

/-- A record that does not stand is refused with STATE and its state (R154). -/
theorem exec_ackAlarm_of_not_standing {tag : Byte} {s : State} {k : AlarmKind} {st : AlarmState} (ht : tag ≠ 0)
    (hc : s.clearToAnswer = true) (hst : (s.plant.alarms.get k).state = st) (hrests : st.standing = false) :
    exec (.ackAlarm tag (u8 (k.place + 1) ++ [0])) s =
      .next { s with link := repliedLink s (replyTo s 0x31 tag .state (u8 st.code) .nothing) } := by
  have hexec : exec (.ackAlarm tag (u8 (k.place + 1) ++ [0])) s = .next (_ : State) :=
    submit_answered 0x31 tag _ (answerAckAlarm (u8 (k.place + 1) ++ [0])) s hc ht rfl
  rw [answerAckAlarm_body, hst, if_neg (Bool.eq_false_iff.mp hrests)] at hexec
  exact hexec

/-- Settles O47: the body is read back as the id it carries, and the answer turns on whether that record stands. -/
theorem ackAlarm : Obligations.AckAlarm := by
  refine ⟨fun body s hc => submit_untagged hc, fun tag body s hc hbody => ?malformed,
    fun tag n s ht hn hc hlen => ⟨?record, fun hid => ?noRecord⟩⟩
  case malformed =>
    by_cases ht : tag = 0
    · subst ht
      exact submit_untagged hc
    · exact submit_bare hc ht rfl (answerAckAlarm_form s (.inl (wellFormedBody_false hbody)))
  case record =>
    rintro k rfl
    refine ⟨fun hst => exec_ackAlarm_of_standing (new := .acked) ht hc hlen ?_ ?_,
      fun hst => exec_ackAlarm_of_standing (new := .quiet) ht hc hlen ?_ ?_,
      fun hst => exec_ackAlarm_of_not_standing ht hc hst rfl, fun hst => exec_ackAlarm_of_not_standing ht hc hst rfl⟩ <;>
      rw [hst] <;> rfl
  case noRecord =>
    refine submit_bare hc ht rfl (answerAckAlarm_form s (.inr ?_))
    rw [field_idBody hn]
    exact (alarmOfId_eq_none_iff n).mpr hid

end Sys2Proof.Machine
end

section
namespace Sys2Proof.Machine

/-! ### A number of records that is clamped (R155, R162) -/

theorem clampNat_eq_iff (lo hi n : Nat) : clampNat lo hi n = n ↔ lo ≤ n ∧ n ≤ hi := by
  unfold clampNat
  split
  · omega
  · split <;> omega

theorem okOr_clamped (lo hi n : Nat) :
    okOr (clampNat lo hi n ≠ n) = if lo ≤ n ∧ n ≤ hi then .ok else .clamped := by
  simp only [okOr, decide_eq_true_eq, ← clampNat_eq_iff lo hi n, ne_eq, ite_not]

theorem clamped_value (lo hi n : Nat) : (if clampNat lo hi n ≠ n then u8 (clampNat lo hi n) else []) =
    if lo ≤ n ∧ n ≤ hi then [] else u8 (clampNat lo hi n) := by
  simp only [← clampNat_eq_iff lo hi n, ne_eq, ite_not]

/-! ### READ ALARMS (R155) -/

theorem answerReadAlarms_body {f n : Nat} (s : State) (hf : f < 256) (hn : n < 256) :
    answerReadAlarms (u8 f ++ u8 n ++ [0]) s =
      if f = 0 ∨ 24 < f then (s, .bare .form)
      else (s, .of (if 1 ≤ n ∧ n ≤ 12 then .ok else .clamped)
        (mark (relayOn s.env.cfg.set s.plant.alarms) ++ u8 s.env.cfg.set.relayThreshold ++ u32 s.plant.alarms.changes ++
          u32 s.plant.alarms.raiseCounter ++
          listBytes (alarmBytes s.plant.alarms) ((allAlarms.drop (f - 1)).take (clampNat 1 12 n)) ++
          (if 1 ≤ n ∧ n ≤ 12 then [] else u8 (clampNat 1 12 n)))) := by
  have hform : wellFormedBody 3 (u8 f ++ u8 n ++ [0]) = true := wellFormedBody_append_zero _ _ rfl
  have hid : field (u8 f ++ u8 n ++ [0]) 0 1 = f := by rw [List.append_assoc, field_idBody hf]
  have hcount : field (u8 f ++ u8 n ++ [0]) 1 1 = n := by
    rw [List.append_assoc, field_of_append _ _ _ 1 1 rfl rfl, number_u8, Nat.mod_eq_of_lt hn]
  unfold answerReadAlarms
  rw [hform, hid, hcount]
  dsimp only
  rw [okOr_clamped 1 12 n, clamped_value 1 12 n]
  simp only [Bool.not_true, Bool.false_or, Option.isNone_iff_eq_none, alarmOfId_eq_none_iff, alarmsFrom]

/-! ### READ TREND (R162) -/

theorem trendAnswer_eq (t : Telem) (q : Nat) : trendAnswer t q =
    if t.clear.isSome then (false, true, [])
    else if ∃ p ∈ t.log, p.seq = q then (false, false, t.log.dropWhile fun p => p.seq != q)
    else if q = t.pointCounter then (false, false, [])
    else (true, false, t.log) := by
  have hany : (t.log.any fun p => p.seq == q) = true ↔ ∃ p ∈ t.log, p.seq = q := by
    simp only [List.any_eq_true, beq_iff_eq]
  simp only [trendAnswer, pointsFrom, hany]

/-- SKIPPED: no point has the starting sequence, nor is it the next one (R162 d). -/
theorem trendAnswer_skipped_iff (t : Telem) (q : Nat) : (trendAnswer t q).1 = true ↔
    t.clear = none ∧ (∀ p ∈ t.log, p.seq ≠ q) ∧ q ≠ t.pointCounter := by
  rw [trendAnswer_eq]
  split
  next hclear => exact iff_of_false Bool.false_ne_true fun ⟨hnone, _, _⟩ => Option.isSome_iff_ne_none.mp hclear hnone
  next hclear =>
    split
    next hfound => exact iff_of_false Bool.false_ne_true fun ⟨_, hnot, _⟩ => hfound.elim fun p ⟨hp, hpq⟩ => hnot p hp hpq
    next hfound =>
      split
      next hnext => exact iff_of_false Bool.false_ne_true fun ⟨_, _, hne⟩ => hne hnext
      next hnext =>
        exact iff_of_true rfl ⟨Option.not_isSome_iff_eq_none.mp hclear, fun p hp hpq => hfound ⟨p, hp, hpq⟩, hnext⟩

/-- CLEARING: a CLEAR TREND is in flight (R162 a). -/
theorem trendAnswer_clearing_iff (t : Telem) (q : Nat) : (trendAnswer t q).2.1 = true ↔ t.clear.isSome = true := by
  rw [trendAnswer_eq]
  split
  next hclear => exact iff_of_true rfl hclear
  next hclear =>
    split
    next => exact iff_of_false Bool.false_ne_true hclear
    next => split <;> exact iff_of_false Bool.false_ne_true hclear

theorem trendAnswer_points (t : Telem) (q n : Nat) : (trendAnswer t q).2.2.take n =
    if t.clear.isSome then []
    else if ∃ p ∈ t.log, p.seq = q then (t.log.dropWhile fun p => p.seq != q).take n
    else if q = t.pointCounter then []
    else t.log.take n := by
  simp only [trendAnswer_eq, apply_ite (fun x : Bool × Bool × List TrendPoint => x.2.2.take n), List.take_nil]

/-- The three flags of READ TREND, weighing 1, 2 and 4, are read back from their sum. -/
theorem flagBits_sum (a b c : Bool) :
    flagBit a 1 + flagBit b 2 + flagBit c 4 < 8 ∧ (4 ≤ flagBit a 1 + flagBit b 2 + flagBit c 4 ↔ c = true) ∧
      ((flagBit a 1 + flagBit b 2 + flagBit c 4) % 2 = 1 ↔ a = true) ∧
      ((flagBit a 1 + flagBit b 2 + flagBit c 4) / 2 % 2 = 1 ↔ b = true) := by
  cases a <;> cases b <;> cases c <;> decide

/-- The flags of READ TREND: SKIPPED, CLEARING, log empty. -/
def trendFlags (t : Telem) (q : Nat) : Nat :=
  flagBit (trendAnswer t q).1 1 + flagBit (trendAnswer t q).2.1 2 + flagBit t.log.isEmpty 4

/-- The oldest sequence in the log as READ TREND sends it. -/
def oldestBytes (t : Telem) : List Byte := u32? (t.log.head?.map (·.seq))

theorem answerReadTrend_body {q n : Nat} (s : State) (hq : q < 4294967296) (hn : n < 256) :
    answerReadTrend (u32 q ++ u8 n ++ [0]) s =
      (s, .of (if 1 ≤ n ∧ n ≤ 12 then .ok else .clamped)
        (u8 (trendFlags s.plant.telem q) ++ u8 ((trendAnswer s.plant.telem q).2.2.take (clampNat 1 12 n)).length ++
          oldestBytes s.plant.telem ++ u32 s.plant.telem.pointCounter ++
          ((trendAnswer s.plant.telem q).2.2.take (clampNat 1 12 n)).flatMap TrendPoint.bytes ++
          (if 1 ≤ n ∧ n ≤ 12 then [] else u8 (clampNat 1 12 n)))) := by
  have hform : wellFormedBody 6 (u32 q ++ u8 n ++ [0]) = true := wellFormedBody_append_zero _ _ rfl
  have hseq : field (u32 q ++ u8 n ++ [0]) 0 4 = q := by
    rw [List.append_assoc, field_zero_of_append _ _ 4 rfl, number_u32, Nat.mod_eq_of_lt hq]
  have hcount : field (u32 q ++ u8 n ++ [0]) 4 1 = n := by
    rw [List.append_assoc, field_of_append _ _ _ 4 1 rfl rfl, number_u8, Nat.mod_eq_of_lt hn]
  unfold answerReadTrend
  rw [hform, hseq, hcount]
  dsimp only
  rw [okOr_clamped 1 12 n, clamped_value 1 12 n]
  rfl

/-- Settles O11: both bodies are read back as the numbers they carry, and the content is that of R155 and R162. -/
theorem readSomeRecords : Obligations.ReadSomeRecords := by
  intro tag n s ht hn hc
  refine ⟨fun f hf1 hf24 => ?alarms, fun f hf hid => ?noAlarm, fun q hq => ?trend⟩
  case alarms =>
    have hexec : exec (.readAlarms tag (u8 f ++ u8 n ++ [0])) s = .next (_ : State) :=
      submit_answered 0x32 tag _ (answerReadAlarms (u8 f ++ u8 n ++ [0])) s hc ht rfl
    rw [answerReadAlarms_body s (by omega) hn, if_neg (by omega)] at hexec
    exact hexec
  case noAlarm =>
    exact submit_bare hc ht rfl ((answerReadAlarms_body s hf hn).trans (if_pos hid))
  case trend =>
    have hexec : exec (.readTrend tag (u32 q ++ u8 n ++ [0])) s = .next (_ : State) :=
      submit_answered 0x33 tag _ (answerReadTrend (u32 q ++ u8 n ++ [0])) s hc ht rfl
    rw [answerReadTrend_body s hq hn, trendAnswer_points] at hexec
    obtain ⟨hlt, hempty, hskipped, hclearing⟩ := flagBits_sum (trendAnswer s.plant.telem q).1
      (trendAnswer s.plant.telem q).2.1 s.plant.telem.log.isEmpty
    refine ⟨trendFlags s.plant.telem q, oldestBytes s.plant.telem, hexec, hlt, hempty.trans List.isEmpty_iff,
      hskipped.trans (trendAnswer_skipped_iff _ q), hclearing.trans (trendAnswer_clearing_iff _ q), fun p ps hlog => ?_,
      fun hlog => ?_⟩ <;> rw [oldestBytes, hlog] <;> rfl

end Sys2Proof.Machine
end
